-- ==== Sys2Proof/Word.lean ====
section
/-! DEFINITION. The word types of the LLC (00_scope R13: a byte is 8 bits, every value is unsigned). -/

namespace Sys2Proof

/-- A byte (R13). -/
abbrev Byte := BitVec 8

/-- The width of the millisecond clock and of every time stamp (R10 `CLOCK_W`, R40). -/
abbrev Clock := BitVec 16

/-- A command id of the home_space layer (R94). -/
abbrev CmdId := BitVec 16

/-- A tree address (R95). -/
abbrev TreeAddr := BitVec 24

/-- The "32-bit MSB group" of a radio address (R99). -/
abbrev Hi32 := BitVec 32

/-- A radio address (R99). -/
abbrev RadioAddr := BitVec 40

end Sys2Proof
end

