-- ==== Sys2Proof/Config.lean ====
section
/-! DEFINITION. What an implementation fixes: the constants of 00_scope R10, the build-time parameters of R11 with their
ranges, and the values the spec leaves open (opaque, without a body). -/

namespace Sys2Proof

/-- The six logical receive pipes, numbered 0 to 5 (R10 `NUM_PIPES`, R18). -/
inductive Pipe where
  | p0 | p1 | p2 | p3 | p4 | p5
deriving DecidableEq, Repr, Inhabited

/-- The five children of a tree node, numbered 1 to 5 (R10 `FANOUT`). -/
inductive Child where
  | c1 | c2 | c3 | c4 | c5
deriving DecidableEq, Repr, Inhabited

namespace Config

/-- R10: bytes in one hardware frame. -/
abbrev payloadSize : Nat := 32
/-- R10: largest data length of one frame. -/
abbrev maxData : Nat := 30
/-- R10: largest legal RF channel. -/
abbrev maxChannel : Nat := 125
/-- R10: largest legal pipe mask. -/
abbrev pipeMaskMax : Nat := 0x3F
/-- R10: children per tree node, the divisor of the case-4 route formula. -/
abbrev fanout : Nat := 5
/-- R10: bytes of the info header. -/
abbrev hdrLen : Nat := 9
/-- R10: largest declared data count that fits one frame. -/
abbrev maxCmdData : Nat := 21

/-- FREE VALUE (log 12, DESIGN CHOICE): the response byte for a command-table index above 255. R241 puts the index in one
byte and gives no value for an index that does not fit. -/
opaque indexByte : Nat → Byte

/-- FREE VALUE (log 14, DESIGN CHOICE): the i-th dummy byte shifted out while a received payload is read (R116 gives 32 dummy
bytes and no value for them). -/
opaque dummyByte : Nat → Byte

end Config

/-- One entry of `CMD_TABLE` (R11, R250): command id and expected byte count. -/
structure CmdEntry where
  id       : CmdId
  expected : Byte
deriving DecidableEq, Repr, Inhabited

/-- The 40-bit addresses `CHILD_ADDR[1..5]` (R11). -/
structure ChildAddrs where
  a1 : RadioAddr
  a2 : RadioAddr
  a3 : RadioAddr
  a4 : RadioAddr
  a5 : RadioAddr
deriving DecidableEq, Repr, Inhabited

/-- The build-time parameters of R11, "a model takes each as an argument": here one record, a field of State that no operation
writes (20_memory R83; log 1). -/
structure Params where
  /-- `TX_TIMEOUT_MS`, 0 to 65534. -/
  txTimeoutMs    : Clock
  /-- `DEFAULT_CHANNEL`, 0 to 125. -/
  defaultChannel : BitVec 7
  /-- `INIT_PIPE_MASK`, 6 bits. -/
  initPipeMask   : BitVec 6
  /-- `QUEUE_CAP`, 1 to 65535, the same for all six queues. -/
  queueCap       : Nat
  /-- `CNT_W`, the counters' width in bits. -/
  cntW           : Nat
  /-- `CONFIG_BASE`, 8 bits with bits 1 and 0 clear. -/
  configBase     : Byte
  /-- `BOARD_ADDRESS`. -/
  boardAddress   : TreeAddr
  /-- `HAS_PARENT`. -/
  hasParent      : Bool
  /-- `PARENT_ADDR`. -/
  parentAddr     : RadioAddr
  /-- `CHILD_ADDR[1..5]`. -/
  childAddrs     : ChildAddrs
  /-- `CMD_CAP`. -/
  cmdCap         : Nat
  /-- `CMD_TABLE`, at most `CMD_CAP` entries. -/
  cmdTable       : List CmdEntry
  /-- `ROUTE_DOWN1` as its table of values: entry `16 * width + depth` (R245; log 18). -/
  routeDown1     : List (Option Child)
deriving DecidableEq, Repr, Inhabited

/-- The ranges R11 gives for the parameters. -/
abbrev Params.InRange (p : Params) : Prop :=
  p.txTimeoutMs ≠ 0xFFFF#16 ∧ p.defaultChannel.toNat ≤ Config.maxChannel ∧ 1 ≤ p.queueCap ∧ p.queueCap ≤ 65535 ∧
    p.configBase &&& 3#8 = 0#8 ∧ p.cmdTable.length ≤ p.cmdCap ∧ p.routeDown1.length = 256

/-- The column "test value" of R11, which the vectors of 95_test_vectors.md use. R11: it "is not a default the hardware is
claimed to have". No statement of this package rests on it (log 1). -/
def Params.test : Params where
  txTimeoutMs    := 100#16
  defaultChannel := 2#7
  initPipeMask   := 0x3F#6
  queueCap       := 64
  cntW           := 16
  configBase     := 0x08#8
  boardAddress   := 0x000021#24
  hasParent      := true
  parentAddr     := 0xF0F0F0F0E1#40
  childAddrs     :=
    { a1 := 0xF0F0F0F0C1#40, a2 := 0xF0F0F0F0C2#40, a3 := 0xF0F0F0F0C3#40, a4 := 0xF0F0F0F0C4#40, a5 := 0xF0F0F0F0C5#40 }
  cmdCap         := 4
  cmdTable       := [⟨0x0001#16, 3#8⟩, ⟨0x0002#16, 0#8⟩]
  routeDown1     := (List.range 256).map fun i =>
    if i / 16 = 0 then none
    else match (i / 16 - 1) % 5 with
      | 0 => some .c1
      | 1 => some .c2
      | 2 => some .c3
      | 3 => some .c4
      | _ => some .c5

end Sys2Proof
end

