-- ==== Sys2Proof/Syntax.lean ====
section
/-! DEFINITION. The operations of the LLC, one constructor per row of spec/opcode_table.json (30_encoding R101), the host
message they are written as (R100), and the formats (R102). -/

namespace Sys2Proof

/-- A host message (R100): its first byte `op` and the bytes after it. "The empty message cannot occur" (R106): it cannot be
written in this type. -/
structure Message where
  op   : Byte
  rest : List Byte
deriving DecidableEq, Repr, Inhabited

/-- The operations of the operation map R101, with their operands (R102, R103). -/
inductive Instr where
  /-- 0x01 INIT, R130. -/
  | init
  /-- 0x02 SET_CHANNEL ch, R132. -/
  | setChannel (ch : Byte)
  /-- 0x03 SET_RX_ADDR pipe, hi32, lo8, R134. -/
  | setRxAddr (pipe : Byte) (hi32 : Hi32) (lo8 : Byte)
  /-- 0x04 SET_TX_ADDR hi32, lo8, R136. -/
  | setTxAddr (hi32 : Hi32) (lo8 : Byte)
  /-- 0x05 ENABLE_PIPES mask, R138. -/
  | enablePipes (mask : Byte)
  /-- 0x06 DISABLE_PIPES mask, R139. -/
  | disablePipes (mask : Byte)
  /-- 0x07 WRITE_PAYLOAD data (the length byte is the number of bytes), R180. -/
  | writePayload (data : List Byte)
  /-- 0x08 RESET_TO_RX, R186. -/
  | resetToRx
  /-- 0x09 DATA_READY, R216. -/
  | dataReady
  /-- 0x0A PIPE_COUNT pipe, R220. -/
  | pipeCount (pipe : Byte)
  /-- 0x0B PIPE_READ pipe, R221. -/
  | pipeRead (pipe : Byte)
  /-- 0x0C GET_CKSUM_ERR, R222. -/
  | getCksumErr
  /-- 0x0D GET_RESET_CNT, R223. -/
  | getResetCnt
  /-- 0x0E GET_MODE, R141. -/
  | getMode
  /-- 0x0F ROUTE_STEP pipe, R240. -/
  | routeStep (pipe : Byte)
  /-- 0x10 CHECKSUM data, R163. -/
  | checksum (data : List Byte)
  /-- 0x11 ENCODE_FRAME data, R164. -/
  | encodeFrame (data : List Byte)
  /-- 0x12 DECODE_FRAME frame, R165. -/
  | decodeFrame (frame : List Byte)
  /-- IRQ_SERVICE, R210: not a host command; 0x80 is its trace code. -/
  | irqService
deriving DecidableEq, Repr, Inhabited

/-- The 18 host commands of R101, without their operands. -/
inductive Op where
  | init | setChannel | setRxAddr | setTxAddr | enablePipes | disablePipes | writePayload | resetToRx | dataReady
  | pipeCount | pipeRead | getCksumErr | getResetCnt | getMode | routeStep | checksum | encodeFrame | decodeFrame
deriving DecidableEq, Repr, Inhabited

/-- The message formats of R102 (EV has no message). -/
inductive Format where
  | h0 | h1 | hra | hta | hv | hf
deriving DecidableEq, Repr, Inhabited

/-- Why a message is not a command (R106). -/
inductive DecodeError where
  /-- "An `op` not listed in rule R101 as a host command". -/
  | unknownOp (op : Byte)
  /-- "A message whose `op` is listed but whose length differs from the format's total length". -/
  | badLength (op : Op)
deriving DecidableEq, Repr

end Sys2Proof
end

