-- ==== Sys2Proof/WellFormed.lean ====
section
/-! DEFINITION. Which operations a message can carry: the two bounds that R102 puts on operands of variable type. Every other
operand is well formed by its type; an operand out of range (channel 126, pipe 6) is well formed, and the operation answers it
with a status. -/

namespace Sys2Proof

/-- R102, format HV: `len` is one byte, so at most 255 data bytes. -/
def dataFitsHV (data : List Byte) : Bool := data.length ≤ 255

/-- R102, format HF: `frame[0..31]`. -/
def frameFitsHF (frame : List Byte) : Bool := frame.length = Config.payloadSize

/-- The well-formed operations. -/
def Instr.wellFormed : Instr → Bool
  | .writePayload data => dataFitsHV data
  | .checksum data => dataFitsHV data
  | .encodeFrame data => dataFitsHV data
  | .decodeFrame frame => frameFitsHF frame
  | .init => true
  | .setChannel _ => true
  | .setRxAddr _ _ _ => true
  | .setTxAddr _ _ => true
  | .enablePipes _ => true
  | .disablePipes _ => true
  | .resetToRx => true
  | .dataReady => true
  | .pipeCount _ => true
  | .pipeRead _ => true
  | .getCksumErr => true
  | .getResetCnt => true
  | .getMode => true
  | .routeStep _ => true
  | .irqService => true

end Sys2Proof
end

