-- ==== Sys2Proof/Decode.lean ====
section
/-! DEFINITION. The host command port's encoding (30_encoding R100 to R106): decoding, total on every message and rejecting by
name, and the encoder. -/

namespace Sys2Proof

/-- The operation codes of R101. -/
def Op.code : Op → Byte
  | .init => 0x01#8
  | .setChannel => 0x02#8
  | .setRxAddr => 0x03#8
  | .setTxAddr => 0x04#8
  | .enablePipes => 0x05#8
  | .disablePipes => 0x06#8
  | .writePayload => 0x07#8
  | .resetToRx => 0x08#8
  | .dataReady => 0x09#8
  | .pipeCount => 0x0A#8
  | .pipeRead => 0x0B#8
  | .getCksumErr => 0x0C#8
  | .getResetCnt => 0x0D#8
  | .getMode => 0x0E#8
  | .routeStep => 0x0F#8
  | .checksum => 0x10#8
  | .encodeFrame => 0x11#8
  | .decodeFrame => 0x12#8

/-- R101: the trace code of IRQ_SERVICE. As a host message it is reserved (R106). -/
def irqServiceCode : Byte := 0x80#8

/-- The host commands in the order of R101. -/
def Op.all : List Op :=
  [.init, .setChannel, .setRxAddr, .setTxAddr, .enablePipes, .disablePipes, .writePayload, .resetToRx, .dataReady,
   .pipeCount, .pipeRead, .getCksumErr, .getResetCnt, .getMode, .routeStep, .checksum, .encodeFrame, .decodeFrame]

/-- The command an operation code names; none for a reserved code (R106). -/
def Op.ofCode? (b : Byte) : Option Op := Op.all.find? fun o => o.code = b

/-- The column "format" of R101. -/
def Op.format : Op → Format
  | .init => .h0
  | .setChannel => .h1
  | .setRxAddr => .hra
  | .setTxAddr => .hta
  | .enablePipes => .h1
  | .disablePipes => .h1
  | .writePayload => .hv
  | .resetToRx => .h0
  | .dataReady => .h0
  | .pipeCount => .h1
  | .pipeRead => .h1
  | .getCksumErr => .h0
  | .getResetCnt => .h0
  | .getMode => .h0
  | .routeStep => .h1
  | .checksum => .hv
  | .encodeFrame => .hv
  | .decodeFrame => .hf

/-- R102: how many bytes a message of the format has after `op`, the total length less one. For HV it depends on the length
byte, the first byte of `rest`. -/
def operandLength (f : Format) (rest : List Byte) : Nat :=
  match f with
  | .h0 => 0
  | .h1 => 1
  | .hra => 6
  | .hta => 5
  | .hv => 1 + (rest.headD 0#8).toNat
  | .hf => 32

/-- Byte i of the operands, counted from 0 after `op`. -/
def operandByte (rest : List Byte) (i : Nat) : Byte := rest.getD i 0#8

/-- R103: `hi32 = b[i] : b[i+1] : b[i+2] : b[i+3]`, the most significant byte first; i counts from 0 after `op`. -/
def operandHi32 (rest : List Byte) (i : Nat) : Hi32 :=
  operandByte rest i ++ operandByte rest (i + 1) ++ operandByte rest (i + 2) ++ operandByte rest (i + 3)

/-- The operands of each format put together (R102, R103). -/
def assemble (o : Op) (rest : List Byte) : Instr :=
  match o with
  | .init => .init
  | .setChannel => .setChannel (operandByte rest 0)
  | .setRxAddr => .setRxAddr (operandByte rest 0) (operandHi32 rest 1) (operandByte rest 5)
  | .setTxAddr => .setTxAddr (operandHi32 rest 0) (operandByte rest 4)
  | .enablePipes => .enablePipes (operandByte rest 0)
  | .disablePipes => .disablePipes (operandByte rest 0)
  | .writePayload => .writePayload (rest.drop 1)
  | .resetToRx => .resetToRx
  | .dataReady => .dataReady
  | .pipeCount => .pipeCount (operandByte rest 0)
  | .pipeRead => .pipeRead (operandByte rest 0)
  | .getCksumErr => .getCksumErr
  | .getResetCnt => .getResetCnt
  | .getMode => .getMode
  | .routeStep => .routeStep (operandByte rest 0)
  | .checksum => .checksum (rest.drop 1)
  | .encodeFrame => .encodeFrame (rest.drop 1)
  | .decodeFrame => .decodeFrame rest

/-- A host message decoded (R101 to R103, R106): the operation code is tested first, the length second (R287). -/
def decodeMessage (m : Message) : Except DecodeError Instr :=
  match Op.ofCode? m.op with
  | none => .error (.unknownOp m.op)
  | some o => if m.rest.length = operandLength o.format m.rest then .ok (assemble o m.rest) else .error (.badLength o)

/-- The name a trace or a script gives an operation (R101): the host messages, and the trace code 0x80 alone for
IRQ_SERVICE, which is no host message (log 8). -/
def decodeTrace (m : Message) : Except DecodeError Instr :=
  if m = ⟨irqServiceCode, []⟩ then .ok .irqService else decodeMessage m

/-- R103, R74: the four bytes of `hi32`, most significant first. -/
def hi32Bytes (h : Hi32) : List Byte :=
  [h.extractLsb' 24 8, h.extractLsb' 16 8, h.extractLsb' 8 8, h.extractLsb' 0 8]

/-- Operands of format HV: the length byte and the data (R102). -/
def hvOperands (data : List Byte) : List Byte := BitVec.ofNat 8 data.length :: data

/-- The message of an operation, written from R101 and R102; for IRQ_SERVICE its trace code. -/
def encode : Instr → Message
  | .init => ⟨0x01#8, []⟩
  | .setChannel ch => ⟨0x02#8, [ch]⟩
  | .setRxAddr pipe hi32 lo8 => ⟨0x03#8, pipe :: (hi32Bytes hi32 ++ [lo8])⟩
  | .setTxAddr hi32 lo8 => ⟨0x04#8, hi32Bytes hi32 ++ [lo8]⟩
  | .enablePipes mask => ⟨0x05#8, [mask]⟩
  | .disablePipes mask => ⟨0x06#8, [mask]⟩
  | .writePayload data => ⟨0x07#8, hvOperands data⟩
  | .resetToRx => ⟨0x08#8, []⟩
  | .dataReady => ⟨0x09#8, []⟩
  | .pipeCount pipe => ⟨0x0A#8, [pipe]⟩
  | .pipeRead pipe => ⟨0x0B#8, [pipe]⟩
  | .getCksumErr => ⟨0x0C#8, []⟩
  | .getResetCnt => ⟨0x0D#8, []⟩
  | .getMode => ⟨0x0E#8, []⟩
  | .routeStep pipe => ⟨0x0F#8, [pipe]⟩
  | .checksum data => ⟨0x10#8, hvOperands data⟩
  | .encodeFrame data => ⟨0x11#8, hvOperands data⟩
  | .decodeFrame frame => ⟨0x12#8, frame⟩
  | .irqService => ⟨0x80#8, []⟩

/-- The bytes of an opcode-table word of `nbits` bits: bit 0 is the least significant bit of the first byte. -/
def tableBytes (nbits w : Nat) : List Byte :=
  (List.range ((nbits + 7) / 8)).map fun k => BitVec.ofNat 8 ((w % 2 ^ nbits) / 2 ^ (8 * k))

/-- `bytes` cut or filled with zero bytes to the length `n`. -/
def fitBytes (n : Nat) (bytes : List Byte) : List Byte := (bytes ++ List.replicate n 0#8).take n

/-- The message an opcode-table word stands for: its bytes, then zero bytes up to the length its format gives. -/
def tableMessage (nbits w : Nat) : Option Message :=
  match tableBytes nbits w with
  | [] => none
  | b :: bs =>
    match Op.ofCode? b with
    | none => some ⟨b, bs⟩
    | some o => some ⟨b, fitBytes (operandLength o.format bs) bs⟩

/-- The instruction the decoder reads from an opcode-table word: a host message, or the trace code of IRQ_SERVICE. -/
def decodeTableWord (nbits w : Nat) : Option Instr :=
  match tableMessage nbits w with
  | none => none
  | some m => (decodeTrace m).toOption

end Sys2Proof
end

