-- ==== Sys2Proof/Machine/State.lean ====
section
/-! DEFINITION. The state of the LLC as plain data: the architectural state of 10_state R20, and the inputs, outputs and build
parameters that R20 calls "a parameter, an input sampled from the environment or a value local to one operation". -/

namespace Sys2Proof.Machine

/-! ## The parts of the state -/

/-- R22: the source's RadioState. -/
inductive Mode where
  | standby | receiving | transmitting
deriving DecidableEq, Repr, Inhabited

/-- One value per pipe (`x[0..5]` of R14). -/
structure PerPipe (α : Type) where
  p0 : α
  p1 : α
  p2 : α
  p3 : α
  p4 : α
  p5 : α
deriving DecidableEq, Repr

/-- The same value for every pipe. -/
def PerPipe.all {α : Type} (v : α) : PerPipe α := ⟨v, v, v, v, v, v⟩

/-- R34, R93: the nine bytes of an info header, `rt_hdr[p][0..8]`. -/
structure Header where
  h0 : Byte
  h1 : Byte
  h2 : Byte
  h3 : Byte
  h4 : Byte
  h5 : Byte
  h6 : Byte
  h7 : Byte
  h8 : Byte
deriving DecidableEq, Repr

/-- A header of nine zero bytes. -/
def Header.zero : Header :=
  ⟨0#8, 0#8, 0#8, 0#8, 0#8, 0#8, 0#8, 0#8, 0#8⟩

/-- R68, R97: the record `RadioStatus()` returns. -/
structure StatusRec where
  rxDr  : Bool
  txDs  : Bool
  maxRt : Bool
  rxPNo : BitVec 3
deriving DecidableEq, Repr

/-- R36: the radio registers the LLC writes, by their symbolic names. -/
inductive RadioReg where
  | config
  | rfCh
  | enRxaddr
  | rxAddr (p : Pipe)
  | txAddr
  | rxPw (p : Pipe)
  | status
deriving DecidableEq, Repr

/-- R73: the two power configurations. -/
inductive RadioMode where
  | rx | tx
deriving DecidableEq, Repr

/-- One entry of the radio port's trace (R66): a transaction of R67 to R73, or a write of `ce` (R30). -/
inductive RadioOp where
  | ce (b : Bool)
  | writeReg (r : RadioReg) (bytes : List Byte)
  | readStatus
  | readRxPayload
  | writeTxPayload (frame : List Byte)
  | flushTx
  | flushRx
  | clearFlags (rxDr txDs maxRt : Bool)
  | setMode (m : RadioMode)
deriving DecidableEq, Repr

/-- R280: the conditions. -/
inductive Condition where
  /-- Code 1. `v` is the rejected operand; none for a message of the wrong length, for which R280 names no value (log 11). -/
  | invalidConfig (v : Option Byte)
  /-- Code 2. -/
  | checksumMismatch (p : Pipe)
  /-- Code 3. -/
  | txTimeout
  /-- Code 4. -/
  | queueOverflow (p : Pipe)
  /-- Code 5. -/
  | badPipe (v : BitVec 3)
  /-- Code 6. -/
  | notInit
  /-- Code 7. -/
  | unknownOp (op : Byte)
  /-- Code 8. -/
  | empty (p : Pipe)
  /-- Code 9. -/
  | routerErr (p : Pipe)
  /-- Code 10. -/
  | noHandler (cmd : CmdId)
  /-- Code 11. -/
  | badCount (cmd : CmdId) (n : Byte)
  /-- Code 12. -/
  | noRoute (d : TreeAddr)
deriving DecidableEq, Repr

/-- R104: the status codes. -/
inductive Status where
  | ok | invalidArg | timeout | notInit | empty | pending | routerErr | unknownOp
deriving DecidableEq, Repr

/-- R256: one event of the dispatch port, `Dispatch(i, S, cmd, n, data)`. -/
structure DispatchEvent where
  index : Nat
  src   : TreeAddr
  cmd   : CmdId
  count : Byte
  data  : List Byte
deriving DecidableEq, Repr

/-- Which command the sender works for, so that its response can be formed when it ends (log 9): WRITE_PAYLOAD (R180), or
ROUTE_STEP forwarding up or down to a child (R240). -/
inductive SendReply where
  | write
  | fwdUp
  | fwdDown (c : Child)
deriving DecidableEq, Repr

/-- R33: the outbound sender's transient state. -/
structure Sender where
  /-- `snd_data`. -/
  data  : List Byte
  /-- `snd_len`. -/
  len   : Byte
  /-- `snd_k`, the index of the current frame. -/
  k     : Nat
  /-- `snd_sent`, frames handed to the radio so far. -/
  sent  : Byte
  /-- `t_wait`. -/
  tWait : Clock
  /-- The command that waits (model's own). -/
  reply : SendReply
deriving DecidableEq, Repr

/-- The elements R45 and R321 leave unspecified at a hardware reset, with the values they take (logs 2, 3), and whether the
commands submitted and not yet begun are lost with it (log 15). -/
structure Unspecified where
  txStart    : Clock
  cfgChannel : BitVec 7
  cfgPipeEn  : BitVec 6
  cfgRxHi0   : Hi32
  cfgRxHi1   : Hi32
  cfgRxLo    : PerPipe Byte
  cfgTxHi    : Hi32
  cfgTxLo    : Byte
  rtHdr      : PerPipe Header
  dropQueued : Bool
deriving DecidableEq, Repr

/-- DESIGN CHOICE (log 2): zero for every register without a reset value. -/
def Unspecified.zero : Unspecified where
  txStart    := 0#16
  cfgChannel := 0#7
  cfgPipeEn  := 0#6
  cfgRxHi0   := 0#32
  cfgRxHi1   := 0#32
  cfgRxLo    := PerPipe.all 0#8
  cfgTxHi    := 0#32
  cfgTxLo    := 0#8
  rtHdr      := PerPipe.all Header.zero
  dropQueued := true

/-- R76: a step of one of the agents. -/
inductive Move where
  /-- The foreground agent's step: the oldest command, or the next iteration of the sender's wait (R76(a), R78). -/
  | foreground
  /-- The interrupt agent's step (R76(b)). -/
  | interrupt
  /-- The host submits a command (R76(c), R100). -/
  | submit (m : Message)
  /-- The clock moves: the next sampling returns `t`, the ones after it the values of `later` (R40, R355). -/
  | clock (t : Clock) (later : List Clock)
  /-- The radio's status changes (R68). -/
  | status (r : StatusRec)
  /-- The frame at the head of the radio's receive FIFO changes (R69). -/
  | rxFrame (f : List Byte)
  /-- The interrupt line takes a level; true is high (R28, R290). -/
  | irqLine (level : Bool)
  /-- The reset input (R320). -/
  | reset (u : Unspecified)
deriving DecidableEq, Repr

/-! ## The state -/

/-- The state of the machine. The first part is R20's table; the second holds parameters, inputs and outputs. -/
structure State where
  /-- R22. -/
  mode        : Mode
  /-- R24 `tx_start`. -/
  txStart     : Clock
  /-- R21 `cfg_channel`. -/
  cfgChannel  : BitVec 7
  /-- R21 `cfg_pipe_en`. -/
  cfgPipeEn   : BitVec 6
  /-- R21 `cfg_rx_hi[0]`. -/
  cfgRxHi0    : Hi32
  /-- R21 `cfg_rx_hi[1]`, shared by pipes 2 to 5 (R25). -/
  cfgRxHi1    : Hi32
  /-- R21 `cfg_rx_lo[0..5]`. -/
  cfgRxLo     : PerPipe Byte
  /-- R21 `cfg_tx_hi`. -/
  cfgTxHi     : Hi32
  /-- R21 `cfg_tx_lo`. -/
  cfgTxLo     : Byte
  /-- R30 `ce`. -/
  ce          : Bool
  /-- R28 `irq_en`. -/
  irqEn       : Bool
  /-- R28 `irq_pend`. -/
  irqPend     : Bool
  /-- R32 `q[0..5]`, oldest byte first. -/
  q           : PerPipe (List Byte)
  /-- R31 `cnt_cksum_err`. -/
  cntCksumErr : Nat
  /-- R31 `cnt_reset`. -/
  cntReset    : Nat
  /-- R34 `rt_hdr_valid[0..5]`. -/
  rtHdrValid  : PerPipe Bool
  /-- R34 `rt_hdr[0..5][0..8]`. -/
  rtHdr       : PerPipe Header
  /-- R34 `rt_err[0..5]`. -/
  rtErr       : PerPipe Bool
  /-- R33: the sender's transient; none when it is not live. -/
  sender      : Option Sender
  /-- R11, R83: the build-time parameters; no operation writes them (log 1). -/
  params      : Params
  /-- R40: what the next sampling of the clock returns. -/
  now         : Clock
  /-- R355: what the samplings after it return, in order; when it is empty the clock stands (log 5). -/
  nowNext     : List Clock
  /-- R68, R79: the record the next `RadioStatus()` returns (log 6). -/
  radioStatus : StatusRec
  /-- R69, R79: the bytes the next `RadioReadRxPayload()` returns (log 6). -/
  radioFrame  : List Byte
  /-- R28: the level of the interrupt line; true is high (log 7). -/
  irqLine     : Bool
  /-- R76: the coming moves of the agents (log 4). -/
  agenda      : List Move
  /-- R100: messages submitted and not yet executed, oldest first. -/
  hostIn      : List Message
  /-- R100, R104: responses emitted so far, oldest first. -/
  hostOut     : List (List Byte)
  /-- R66: the radio port's trace, oldest first. -/
  radioTrace  : List RadioOp
  /-- R256: the dispatch port's trace, oldest first. -/
  dispatchOut : List DispatchEvent
  /-- R281: the ghost trace of conditions, oldest first. -/
  conditions  : List Condition
deriving DecidableEq, Repr

/-- The state after hardware reset with the parameters `p` and the values `u` for what R45 leaves unspecified: R45, R321, and
the environment's inputs at rest (logs 4, 5, 6, 7). -/
def State.resetWith (p : Params) (u : Unspecified) : State where
  mode        := .standby
  txStart     := u.txStart
  cfgChannel  := u.cfgChannel
  cfgPipeEn   := u.cfgPipeEn
  cfgRxHi0    := u.cfgRxHi0
  cfgRxHi1    := u.cfgRxHi1
  cfgRxLo     := u.cfgRxLo
  cfgTxHi     := u.cfgTxHi
  cfgTxLo     := u.cfgTxLo
  ce          := false
  irqEn       := false
  irqPend     := false
  q           := PerPipe.all []
  cntCksumErr := 0
  cntReset    := 0
  rtHdrValid  := PerPipe.all false
  rtHdr       := u.rtHdr
  rtErr       := PerPipe.all false
  sender      := none
  params      := p
  now         := 0#16
  nowNext     := []
  radioStatus := ⟨false, false, false, 0#3⟩
  radioFrame  := List.replicate 32 0#8
  irqLine     := true
  agenda      := []
  hostIn      := []
  hostOut     := []
  radioTrace  := []
  dispatchOut := []
  conditions  := []

/-- The machine right after reset: R45 and R321, with zero for what they leave unspecified (log 2) and R11's test values as
the build's parameters (log 1). -/
def State.reset : State := State.resetWith Params.test Unspecified.zero

/-! ## The ways a step can stop -/

/-- The faults of the LLC: none. "Nothing is fatal — there is no process abort path in this subsystem" (60_exceptions,
opening paragraph; R281). -/
inductive Fault where
deriving DecidableEq, Repr

/-- The reasons to refuse an instruction. -/
inductive Refusal where
  /-- Raised by `exec` for an instruction of the opcode table that has no meaning yet. Safe: the model stops where the
  hardware goes on. No arm answers it in this model. -/
  | notModelled (mnemonic : String)
deriving DecidableEq, Repr

end Sys2Proof.Machine
end

