-- ==== Sys2Proof/Machine/Operands.lean ====
section
/-! DEFINITION. Operand forms: pipe indices and the range checks of R98, indexed registers (R14), byte order (R74, R103, R115),
radio and tree addresses (R25, R95, R99), the info header (R93, R94), chunks of a write (R183), and the numeric codes of
responses (R104, R141, R241). -/

namespace Sys2Proof

/-- R18: the number of a pipe, 0 to 5. -/
def Pipe.num : Pipe → Nat
  | .p0 => 0
  | .p1 => 1
  | .p2 => 2
  | .p3 => 3
  | .p4 => 4
  | .p5 => 5

/-- The pipe with a number, none from 6 on. -/
def Pipe.ofNat? : Nat → Option Pipe
  | 0 => some .p0
  | 1 => some .p1
  | 2 => some .p2
  | 3 => some .p3
  | 4 => some .p4
  | 5 => some .p5
  | _ => none

/-- R98: "Pipe index: one byte; legal iff `< 6`." -/
def Pipe.ofByte? (b : Byte) : Option Pipe := Pipe.ofNat? b.toNat

/-- R97: the pipe-number field of the status record; 6 and 7 are outside 0 to 5. -/
def Pipe.ofField? (v : BitVec 3) : Option Pipe := Pipe.ofNat? v.toNat

/-- The pipes in ascending order. -/
def Pipe.list : List Pipe := [.p0, .p1, .p2, .p3, .p4, .p5]

/-- The number of a child, 1 to 5 (R11 `CHILD_ADDR[1..5]`). -/
def Child.num : Child → Nat
  | .c1 => 1
  | .c2 => 2
  | .c3 => 3
  | .c4 => 4
  | .c5 => 5

/-- `CHILD_ADDR[c]` (R11). -/
def ChildAddrs.get (a : ChildAddrs) : Child → RadioAddr
  | .c1 => a.a1
  | .c2 => a.a2
  | .c3 => a.a3
  | .c4 => a.a4
  | .c5 => a.a5

/-- `ROUTE_DOWN1(w, d)` (R245), read from the parameter's table; an entry the table does not have is `none` (log 18). -/
def Params.down1 (p : Params) (w d : BitVec 4) : Option Child :=
  p.routeDown1.getD (16 * w.toNat + d.toNat) none

namespace Machine

/-! ## Indexed registers -/

/-- `x[p]` (R14). -/
def PerPipe.get {α : Type} (x : PerPipe α) : Pipe → α
  | .p0 => x.p0
  | .p1 => x.p1
  | .p2 => x.p2
  | .p3 => x.p3
  | .p4 => x.p4
  | .p5 => x.p5

/-- `x[p] <- v` (R14). -/
def PerPipe.set {α : Type} (x : PerPipe α) (p : Pipe) (v : α) : PerPipe α :=
  match p with
  | .p0 => { x with p0 := v }
  | .p1 => { x with p1 := v }
  | .p2 => { x with p2 := v }
  | .p3 => { x with p3 := v }
  | .p4 => { x with p4 := v }
  | .p5 => { x with p5 := v }

/-! ## Operand ranges -/

/-- R98: "Channel: one byte; legal iff `≤ 125`." -/
def channelLegal (ch : Byte) : Bool := ch.toNat ≤ Config.maxChannel

/-- R98: "Pipe mask: one byte ...; legal iff `≤ 0x3F`." -/
def maskLegal (mask : Byte) : Bool := mask.toNat ≤ Config.pipeMaskMax

/-- R98: "Data length for one frame: legal iff `≤ 30`." -/
def frameDataLegal (data : List Byte) : Bool := data.length ≤ Config.maxData

/-! ## Byte order and radio addresses -/

/-- R104, R220, R222, R223: `[c[15:8], c[7:0]]`, big-endian (log 13). -/
def be16 (c : Nat) : List Byte := [BitVec.ofNat 8 (c / 256), BitVec.ofNat 8 c]

/-- R115: the five data bytes of a 40-bit address, least significant first. -/
def addr5 (hi32 : Hi32) (lo8 : Byte) : List Byte :=
  [lo8, hi32.extractLsb' 0 8, hi32.extractLsb' 8 8, hi32.extractLsb' 16 8, hi32.extractLsb' 24 8]

/-- R254: `addr[39:8]`. -/
def addrHi (a : RadioAddr) : Hi32 := a.extractLsb' 8 32

/-- R254: `addr[7:0]`. -/
def addrLo (a : RadioAddr) : Byte := a.extractLsb' 0 8

/-- R25: the 40-bit receive address of a pipe; pipes 2 to 5 share the upper bytes of pipe 1. -/
def rxAddress (p : Pipe) (s : State) : RadioAddr :=
  match p with
  | .p0 => s.cfgRxHi0 ++ s.cfgRxLo.p0
  | .p1 => s.cfgRxHi1 ++ s.cfgRxLo.p1
  | .p2 => s.cfgRxHi1 ++ s.cfgRxLo.p2
  | .p3 => s.cfgRxHi1 ++ s.cfgRxLo.p3
  | .p4 => s.cfgRxHi1 ++ s.cfgRxLo.p4
  | .p5 => s.cfgRxHi1 ++ s.cfgRxLo.p5

/-- R25: the 40-bit transmit address. -/
def txAddress (s : State) : RadioAddr := s.cfgTxHi ++ s.cfgTxLo

/-! ## The info header and the tree address -/

/-- The header whose nine bytes are the first nine of a list (R242). -/
def Header.ofBytes (b : List Byte) : Header :=
  ⟨b.getD 0 0#8, b.getD 1 0#8, b.getD 2 0#8, b.getD 3 0#8, b.getD 4 0#8, b.getD 5 0#8, b.getD 6 0#8, b.getD 7 0#8,
    b.getD 8 0#8⟩

/-- R93: the header's bytes, offset 0 first. -/
def Header.bytes (h : Header) : List Byte := [h.h0, h.h1, h.h2, h.h3, h.h4, h.h5, h.h6, h.h7, h.h8]

/-- R94: `D = h[0] : h[1] : h[2]`. -/
def Header.dest (h : Header) : TreeAddr := h.h0 ++ h.h1 ++ h.h2

/-- R94: `S = h[3] : h[4] : h[5]`. -/
def Header.src (h : Header) : TreeAddr := h.h3 ++ h.h4 ++ h.h5

/-- R94: `cmd = h[6] : h[7]`. -/
def Header.cmd (h : Header) : CmdId := h.h6 ++ h.h7

/-- R94: the declared count `n = h[8]`. -/
def Header.count (h : Header) : Byte := h.h8

/-- R95: `domain(A) = A[23:8]`. -/
def addrDomain (a : TreeAddr) : BitVec 16 := a.extractLsb' 8 16

/-- R95: `depth(A) = A[7:4]`. -/
def addrDepth (a : TreeAddr) : BitVec 4 := a.extractLsb' 4 4

/-- R95: `width(A) = A[3:0]`. -/
def addrWidth (a : TreeAddr) : BitVec 4 := a.extractLsb' 0 4

/-! ## Frames of a write -/

/-- R183: `F = 1` if `L = 0`, else `ceil_div(L, 30)`, with `ceil_div(a, b) = (a + b − 1) div b` (R13). -/
def frameCount (len : Nat) : Nat :=
  if len = 0 then 1 else (len + Config.maxData - 1) / Config.maxData

/-- R183: `data[30k .. min(30k+29, L−1)]`. -/
def chunk (data : List Byte) (k : Nat) : List Byte := (data.drop (Config.maxData * k)).take Config.maxData

/-- R69: a received payload is 32 bytes, whatever the environment holds ready (log 6). -/
def frame32 (bytes : List Byte) : List Byte := fitBytes Config.payloadSize bytes

/-! ## Codes of responses and conditions -/

/-- R141: Standby = 0, Receiving = 1, Transmitting = 2. -/
def Mode.code : Mode → Byte
  | .standby => 0#8
  | .receiving => 1#8
  | .transmitting => 2#8

/-- R104: the status codes. -/
def Status.code : Status → Byte
  | .ok => 0x00#8
  | .invalidArg => 0x01#8
  | .timeout => 0x02#8
  | .notInit => 0x03#8
  | .empty => 0x04#8
  | .pending => 0x05#8
  | .routerErr => 0x06#8
  | .unknownOp => 0xFF#8

/-- R280: the column "code". -/
def Condition.code : Condition → Nat
  | .invalidConfig _ => 1
  | .checksumMismatch _ => 2
  | .txTimeout => 3
  | .queueOverflow _ => 4
  | .badPipe _ => 5
  | .notInit => 6
  | .unknownOp _ => 7
  | .empty _ => 8
  | .routerErr _ => 9
  | .noHandler _ => 10
  | .badCount _ _ => 11
  | .noRoute _ => 12

/-- R104: the result bytes of an operation on a status that gives it no result, as many zero bytes as its shape has. For
DECODE_FRAME the shape is `valid`, `N` and N payload bytes, so two (log 10). -/
def zeroResult : Op → List Byte
  | .init => []
  | .setChannel => []
  | .setRxAddr => []
  | .setTxAddr => []
  | .enablePipes => []
  | .disablePipes => []
  | .resetToRx => []
  | .writePayload => [0#8]
  | .dataReady => [0#8]
  | .pipeCount => [0#8, 0#8]
  | .pipeRead => [0#8]
  | .getCksumErr => [0#8, 0#8]
  | .getResetCnt => [0#8, 0#8]
  | .getMode => [0#8]
  | .routeStep => [0#8, 0#8]
  | .checksum => [0#8]
  | .encodeFrame => List.replicate 32 0#8
  | .decodeFrame => [0#8, 0#8]

/-- R241: the outcomes of a ROUTE_STEP that its response reports. -/
inductive Action where
  | none
  | local_ (index : Nat)
  | fwdUp
  | fwdDown (c : Child)
  | droppedNoHandler
  | droppedBadCount
  | droppedNoRoute
deriving DecidableEq, Repr

/-- R241: the index of a command-table entry as a response byte; above 255 the byte is a free value (log 12). -/
def indexArg (i : Nat) : Byte := if i < 256 then BitVec.ofNat 8 i else Config.indexByte i

/-- R241: the bytes `action` and `arg`. -/
def Action.bytes : Action → List Byte
  | .none => [0#8, 0#8]
  | .local_ i => [1#8, indexArg i]
  | .fwdUp => [2#8, 0#8]
  | .fwdDown c => [3#8, BitVec.ofNat 8 c.num]
  | .droppedNoHandler => [4#8, 0#8]
  | .droppedBadCount => [5#8, 0#8]
  | .droppedNoRoute => [6#8, 0#8]

end Machine

end Sys2Proof
end

