-- ==== Sys2Proof/Machine/Flags.lean ====
section
/-! DEFINITION. The one-bit conditions of the LLC and the arithmetic they are computed with: the transmitting flag and the gate
(R22, R105), the interrupt latch (R28, R290), the timeout predicate (R187) and the saturating counters (R13, R31). There are no
arithmetic condition codes (R27). -/

namespace Sys2Proof.Machine

/-- R22, R27: the transmitting flag is the predicate `mode = Transmitting`. -/
def transmitting (s : State) : Bool := s.mode = .transmitting

/-- R105: the gate refuses while `mode = Standby`. -/
def gateClosed (s : State) : Bool := s.mode = .standby

/-- R28, R210: "The interrupt agent may run IRQ_SERVICE only when `irq_en = 1` and `irq_pend = 1`". -/
def irqEnabled (s : State) : Bool := s.irqEn && s.irqPend

/-- R28, R290: the level `new` of the interrupt line makes a high-to-low transition. -/
def fallingEdge (s : State) (new : Bool) : Bool := s.irqLine && !new

/-- R13: `sub16(a, b) = (a − b) mod 65536`. -/
def sub16 (a b : Clock) : Clock := a - b

/-- R187: `expired(t) = ( sub16(now, t) > TX_TIMEOUT_MS )`, for a sample `n` of the clock. -/
def expired (p : Params) (n t : Clock) : Bool := (sub16 n t).toNat > p.txTimeoutMs.toNat

/-- R13: `sat_inc(c)` is `c + 1` if `c < 2^CNT_W − 1`, else `c`. -/
def satInc (p : Params) (c : Nat) : Nat := if c < 2 ^ p.cntW - 1 then c + 1 else c

/-- R210: the completion flags, examined before data-ready (R291(b)). -/
def StatusRec.txConcluded (r : StatusRec) : Bool := r.txDs || r.maxRt

/-- R216: a frame for a valid pipe is waiting. -/
def StatusRec.dataWaiting (r : StatusRec) : Bool := r.rxDr && r.rxPNo.toNat ≤ 5

end Sys2Proof.Machine
end

