-- ==== Sys2Proof/Machine/Ops.lean ====
section
/-! DEFINITION. The primitives of R15 as named operations on the state: responses and conditions, the clock, the radio port, the
pipe queues, the command gate, the two mode-change sequences, the interrupt's entry, and hardware reset. -/

namespace Sys2Proof.Machine

/-! ## Responses, conditions, events -/

/-- R104: `respond(status, r...)` emits the response message `[status] ++ r`. -/
def respond (st : Status) (r : List Byte) (s : State) : State :=
  { s with hostOut := s.hostOut ++ [st.code :: r] }

/-- R281: `raise C(info)` records the condition in the ghost trace and changes nothing else. -/
def raiseCond (c : Condition) (s : State) : State := { s with conditions := s.conditions ++ [c] }

/-- R256: `emit Dispatch(i, S, cmd, n, data)`. -/
def emitDispatch (e : DispatchEvent) (s : State) : State := { s with dispatchOut := s.dispatchOut ++ [e] }

/-- R282: the rejection of an operand out of range, a no-op with status `INVALID_ARG`. -/
def rejectArg (o : Op) (v : Byte) (s : State) : State :=
  respond .invalidArg (zeroResult o) (raiseCond (.invalidConfig (some v)) s)

/-- R105: the command gate. "The gate is checked before any operand check." -/
def gate (o : Op) (body : State → State) (s : State) : State :=
  if gateClosed s then respond .notInit (zeroResult o) (raiseCond .notInit s) else body s

/-! ## The clock -/

/-- R40: the value a sampling of `now` returns. -/
def clockSample (s : State) : Clock := s.now

/-- R40, R355: the clock after a sampling; it may have moved by any amount before the next (log 5). -/
def clockSampled (s : State) : State := { s with now := s.nowNext.headD s.now, nowNext := s.nowNext.tail }

/-! ## The radio port -/

/-- R66: one transaction, recorded in the order of issue. -/
def transact (t : RadioOp) (s : State) : State := { s with radioTrace := s.radioTrace ++ [t] }

/-- R30: `ce <- b`, a registered output. -/
def driveCe (b : Bool) (s : State) : State := { s with ce := b, radioTrace := s.radioTrace ++ [.ce b] }

/-- R67: `RadioWriteReg(name, bytes)`. -/
def radioWriteReg (r : RadioReg) (bytes : List Byte) (s : State) : State := transact (.writeReg r bytes) s

/-- R68: `RadioStatus()`, the transaction. -/
def radioStatusRead (s : State) : State := transact .readStatus s

/-- R68: the record `RadioStatus()` returns, an input from the environment. -/
def radioStatusValue (s : State) : StatusRec := s.radioStatus

/-- R69: `RadioReadRxPayload()`, the transaction. -/
def radioReadRxPayload (s : State) : State := transact .readRxPayload s

/-- R69: the 32 bytes `RadioReadRxPayload()` returns, an input from the environment. -/
def radioRxPayloadValue (s : State) : List Byte := frame32 s.radioFrame

/-- R70: `RadioWriteTxPayload(f)`. -/
def radioWriteTxPayload (f : List Byte) (s : State) : State := transact (.writeTxPayload f) s

/-- R71: `RadioFlushTx()`. -/
def radioFlushTx (s : State) : State := transact .flushTx s

/-- R71: `RadioFlushRx()`. -/
def radioFlushRx (s : State) : State := transact .flushRx s

/-- R72: `RadioClearFlags({rx_dr, tx_ds, max_rt})`. -/
def radioClearAll (s : State) : State := transact (.clearFlags true true true) s

/-- R72: `RadioClearFlags({rx_dr})`. -/
def radioClearRxDr (s : State) : State := transact (.clearFlags true false false) s

/-- R73: `RadioSetMode(RX)`, `RadioSetMode(TX)`. -/
def radioSetMode (m : RadioMode) (s : State) : State := transact (.setMode m) s

/-- R254, R136: the transmit address written, with its shadows. -/
def writeTxAddr (hi32 : Hi32) (lo8 : Byte) (s : State) : State :=
  { radioWriteReg .txAddr (addr5 hi32 lo8) s with cfgTxHi := hi32, cfgTxLo := lo8 }

/-! ## The pipe queues -/

/-- R60: `QueueCount(p) = len(q[p])`. -/
def queueCount (p : Pipe) (s : State) : Nat := (s.q.get p).length

/-- R61: `QueuePush(p, b)`; a byte that finds the queue full is lost, and the condition `QueueOverflow` is raised (R280). -/
def queuePush (p : Pipe) (b : Byte) (s : State) : State :=
  if queueCount p s < s.params.queueCap then { s with q := s.q.set p (s.q.get p ++ [b]) }
  else raiseCond (.queueOverflow p) s

/-- R215: bytes pushed in order; each push drops its byte if the queue is full. -/
def queuePushAll (p : Pipe) : List Byte → State → State
  | [], s => s
  | b :: bs, s => queuePushAll p bs (queuePush p b s)

/-- R62: `QueuePop(p)`, none when the precondition `len(q[p]) ≥ 1` fails. -/
def queuePop (p : Pipe) (s : State) : Option (Byte × State) :=
  match s.q.get p with
  | [] => none
  | b :: bs => some (b, { s with q := s.q.set p bs })

/-- R240: `QueuePop(p)` repeated n times, in order; the callers check the count first (R62). -/
def queuePopN (p : Pipe) : Nat → State → List Byte × State
  | 0, s => ([], s)
  | n + 1, s =>
    match queuePop p s with
    | none => ([], s)
    | some (b, s') => (b :: (queuePopN p n s').1, (queuePopN p n s').2)

/-! ## Mode changes -/

/-- R212: `EnterReceive()`. -/
def enterReceive (s : State) : State :=
  { driveCe true (radioSetMode .rx (driveCe false s)) with mode := .receiving }

/-- R185: `ResetToReceive()`, the recovery path, in its order. -/
def resetToReceive (s : State) : State :=
  let s1 := { s with cntReset := satInc s.params s.cntReset }
  { driveCe true (radioSetMode .rx (driveCe false (radioClearAll s1))) with mode := .receiving }

/-- R284: the watchdog fires: the condition is raised and the recovery path runs once. -/
def watchdogFires (s : State) : State := resetToReceive (raiseCond .txTimeout s)

/-! ## The interrupt -/

/-- R292: entry to IRQ_SERVICE saves nothing and switches no privilege; "the only state it changes on entry is
`irq_pend <- 0`". There is no return instruction and no state to restore, so nothing stands beside it. -/
def irqEntry (s : State) : State := { s with irqPend := false }

/-- R28, R290: the interrupt line takes a level; a high-to-low transition while `irq_en = 1` sets `irq_pend`, and further ones
are absorbed. -/
def setIrqLine (level : Bool) (s : State) : State :=
  { s with irqPend := s.irqPend || (s.irqEn && fallingEdge s level), irqLine := level }

/-! ## Reset -/

/-- R320, R321: the reset input. The architectural state takes its reset values, a command in progress is abandoned without a
response, and no transaction is issued; what R321 leaves unspecified takes the values of `u` (logs 3, 15). The parameters, the
environment's inputs and the traces stay. -/
def hardwareReset (u : Unspecified) (s : State) : State :=
  { State.resetWith s.params u with
    now := s.now, nowNext := s.nowNext, radioStatus := s.radioStatus, radioFrame := s.radioFrame, irqLine := s.irqLine,
    agenda := s.agenda, hostIn := if u.dropQueued then [] else s.hostIn, hostOut := s.hostOut,
    radioTrace := s.radioTrace, dispatchOut := s.dispatchOut, conditions := s.conditions }

end Sys2Proof.Machine
end

