-- ==== Sys2Proof/Machine/Codec.lean ====
section
/-! DEFINITION. The Packet Framing and Checksum Codec (41_framing_codec): the three functions of R160 to R162 and the operations
CHECKSUM, ENCODE_FRAME and DECODE_FRAME. -/

namespace Sys2Proof.Machine

/-- R160: `~8(L + sum(data))`. -/
def checksumOf (data : List Byte) : Byte :=
  ~~~ (BitVec.ofNat 8 (data.length + (data.map BitVec.toNat).sum))

/-- R161, R90: length byte, payload, checksum, zero filler. Its length is 32 for at most 30 data bytes. -/
def frameOf (data : List Byte) : List Byte :=
  BitVec.ofNat 8 data.length :: (data ++ checksumOf data :: List.replicate (Config.maxData - data.length) 0#8)

/-- R161: `EncodeFrame(data)`, "if `L > 30` it fails (no frame)". -/
def encodeFrameOf (data : List Byte) : Option (List Byte) :=
  if frameDataLegal data then some (frameOf data) else none

/-- R162: what `DecodeFrame(f)` returns. -/
structure Decoded where
  n       : Byte
  payload : List Byte
  valid   : Bool
deriving DecidableEq, Repr

/-- R162: `DecodeFrame(f)`. -/
def decodeFrameOf (f : List Byte) : Decoded :=
  let n := f.getD 0 0#8
  if n.toNat > Config.maxData then ⟨n, [], false⟩
  else
    let payload := (f.drop 1).take n.toNat
    ⟨n, payload, f.getD (n.toNat + 1) 0#8 = checksumOf payload⟩

/-- CHECKSUM, R163: `respond(OK, [Checksum(data)])`. -/
def execChecksum (data : List Byte) (s : State) : Host.Outcome State Fault Refusal :=
  .next (respond .ok [checksumOf data] s)

/-- ENCODE_FRAME, R164. -/
def execEncodeFrame (data : List Byte) (s : State) : Host.Outcome State Fault Refusal :=
  .next (match encodeFrameOf data with
    | none => rejectArg .encodeFrame (BitVec.ofNat 8 data.length) s
    | some f => respond .ok f s)

/-- DECODE_FRAME, R165: `respond(OK, [valid ? 1 : 0, N] ++ payload)`. -/
def execDecodeFrame (frame : List Byte) (s : State) : Host.Outcome State Fault Refusal :=
  let d := decodeFrameOf frame
  .next (respond .ok ((if d.valid then 1#8 else 0#8) :: d.n :: d.payload) s)

end Sys2Proof.Machine
end

