-- ==== Sys2Proof/Machine/Demux.lean ====
section
/-! DEFINITION. The Inbound Demultiplexer (43_inbound_demux): IRQ_SERVICE, DATA_READY, PIPE_COUNT, PIPE_READ, GET_CKSUM_ERR and
GET_RESET_CNT. -/

namespace Sys2Proof.Machine

/-- R211: `TxDone()`. -/
def txDone (s : State) : State := radioClearAll (enterReceive s)

/-- R215: `Deliver(p, f)`. -/
def deliver (p : Pipe) (f : List Byte) (s : State) : State :=
  let d := decodeFrameOf f
  if d.valid then queuePushAll p d.payload s
  else
    let s1 := raiseCond (.checksumMismatch p) s
    { s1 with cntCksumErr := satInc s1.params s1.cntCksumErr }

/-- R213: `Receive(p)`: payload read, receive flush and flag clear come before validation. -/
def receive (p : Pipe) (s : State) : State :=
  deliver p (radioRxPayloadValue s) (radioClearRxDr (radioFlushRx (radioReadRxPayload s)))

/-- R210: the body of IRQ_SERVICE after its entry, for the status record read. -/
def demultiplex (r : StatusRec) (s : State) : State :=
  if r.txConcluded then txDone s
  else if r.rxDr then
    match Pipe.ofField? r.rxPNo with
    | some p => receive p s
    | none => raiseCond (.badPipe r.rxPNo) s
  else s

/-- IRQ_SERVICE, R210. When it may run is the interrupt agent's affair (`irqEnabled`, Machine/Agents.lean). -/
def execIrqService (s : State) : Host.Outcome State Fault Refusal :=
  .next (demultiplex (radioStatusValue s) (radioStatusRead (irqEntry s)))

/-- DATA_READY, R216, behind the gate. -/
def dataReadyBody (s : State) : State :=
  if transmitting s then
    if expired s.params (clockSample s) s.txStart then respond .ok [0#8] (watchdogFires (clockSampled s))
    else respond .ok [0#8] (clockSampled s)
  else respond .ok [if (radioStatusValue s).dataWaiting then 1#8 else 0#8] (radioStatusRead s)

/-- DATA_READY, R216. -/
def execDataReady (s : State) : Host.Outcome State Fault Refusal :=
  .next (gate .dataReady dataReadyBody s)

/-- PIPE_COUNT, R220. -/
def execPipeCount (pipe : Byte) (s : State) : Host.Outcome State Fault Refusal :=
  .next (match Pipe.ofByte? pipe with
    | none => rejectArg .pipeCount pipe s
    | some p => respond .ok (be16 (queueCount p s)) s)

/-- PIPE_READ, R221. -/
def execPipeRead (pipe : Byte) (s : State) : Host.Outcome State Fault Refusal :=
  .next (match Pipe.ofByte? pipe with
    | none => rejectArg .pipeRead pipe s
    | some p =>
      match queuePop p s with
      | none => respond .empty [0#8] (raiseCond (.empty p) s)
      | some (b, s') => respond .ok [b] s')

/-- GET_CKSUM_ERR, R222. -/
def execGetCksumErr (s : State) : Host.Outcome State Fault Refusal :=
  .next (respond .ok (be16 s.cntCksumErr) s)

/-- GET_RESET_CNT, R223. -/
def execGetResetCnt (s : State) : Host.Outcome State Fault Refusal :=
  .next (respond .ok (be16 s.cntReset) s)

end Sys2Proof.Machine
end

