-- ==== Sys2Proof/Machine/ModeControl.lean ====
section
/-! DEFINITION. The Radio Mode Controller (40_mode_control): INIT, SET_CHANNEL, SET_RX_ADDR, SET_TX_ADDR, ENABLE_PIPES,
DISABLE_PIPES and GET_MODE. -/

namespace Sys2Proof.Machine

/-- R130, step 3: `RadioWriteReg(RX_PW_Pp, [32])` for the pipes of a list, in order. -/
def writePayloadWidths : List Pipe → State → State
  | [], s => s
  | p :: ps, s => writePayloadWidths ps (radioWriteReg (.rxPw p) [32#8] s)

/-- R130, step 2: `RadioWriteReg(RF_CH, [ch]); cfg_channel <- ch`. -/
def writeChannel (ch : BitVec 7) (s : State) : State :=
  { radioWriteReg .rfCh [ch.setWidth 8] s with cfgChannel := ch }

/-- R130 step 4, R138, R139: the pipe mask written, with its shadow. -/
def writePipeMask (m : BitVec 6) (s : State) : State :=
  { radioWriteReg .enRxaddr [m.setWidth 8] s with cfgPipeEn := m }

/-- R130: the ten actions of INIT before its response. -/
def initSequence (s : State) : State :=
  let s1 := driveCe false s
  let s2 := writeChannel s.params.defaultChannel s1
  let s3 := writePayloadWidths Pipe.list s2
  let s4 := writePipeMask s.params.initPipeMask s3
  let s5 := radioFlushTx s4
  let s6 := radioFlushRx s5
  let s7 := radioClearAll s6
  let s8 := { radioSetMode .rx s7 with mode := .receiving }
  let s9 := driveCe true s8
  { s9 with irqPend := false, irqEn := true }

/-- INIT, R130, R131. -/
def execInit (s : State) : Host.Outcome State Fault Refusal :=
  .next (respond .ok [] (initSequence s))

/-- SET_CHANNEL, R132, behind the gate. -/
def setChannelBody (ch : Byte) (s : State) : State :=
  if channelLegal ch then respond .ok [] (writeChannel (ch.setWidth 7) s) else rejectArg .setChannel ch s

/-- SET_CHANNEL, R132. -/
def execSetChannel (ch : Byte) (s : State) : Host.Outcome State Fault Refusal :=
  .next (gate .setChannel (setChannelBody ch) s)

/-- R134: the register of a pipe's receive address written with its shadows; for pipes 2 to 5 the low byte alone. -/
def writeRxAddr (p : Pipe) (hi32 : Hi32) (lo8 : Byte) (s : State) : State :=
  match p with
  | .p0 => { radioWriteReg (.rxAddr .p0) (addr5 hi32 lo8) s with cfgRxHi0 := hi32, cfgRxLo := s.cfgRxLo.set .p0 lo8 }
  | .p1 => { radioWriteReg (.rxAddr .p1) (addr5 hi32 lo8) s with cfgRxHi1 := hi32, cfgRxLo := s.cfgRxLo.set .p1 lo8 }
  | .p2 => { radioWriteReg (.rxAddr .p2) [lo8] s with cfgRxLo := s.cfgRxLo.set .p2 lo8 }
  | .p3 => { radioWriteReg (.rxAddr .p3) [lo8] s with cfgRxLo := s.cfgRxLo.set .p3 lo8 }
  | .p4 => { radioWriteReg (.rxAddr .p4) [lo8] s with cfgRxLo := s.cfgRxLo.set .p4 lo8 }
  | .p5 => { radioWriteReg (.rxAddr .p5) [lo8] s with cfgRxLo := s.cfgRxLo.set .p5 lo8 }

/-- SET_RX_ADDR, R134, behind the gate. -/
def setRxAddrBody (pipe : Byte) (hi32 : Hi32) (lo8 : Byte) (s : State) : State :=
  match Pipe.ofByte? pipe with
  | none => rejectArg .setRxAddr pipe s
  | some p => respond .ok [] (writeRxAddr p hi32 lo8 s)

/-- SET_RX_ADDR, R134. -/
def execSetRxAddr (pipe : Byte) (hi32 : Hi32) (lo8 : Byte) (s : State) : Host.Outcome State Fault Refusal :=
  .next (gate .setRxAddr (setRxAddrBody pipe hi32 lo8) s)

/-- SET_TX_ADDR, R136. -/
def execSetTxAddr (hi32 : Hi32) (lo8 : Byte) (s : State) : Host.Outcome State Fault Refusal :=
  .next (gate .setTxAddr (fun s => respond .ok [] (writeTxAddr hi32 lo8 s)) s)

/-- ENABLE_PIPES, R138, behind the gate: OR on the shadow. -/
def enablePipesBody (mask : Byte) (s : State) : State :=
  if maskLegal mask then respond .ok [] (writePipeMask (s.cfgPipeEn ||| mask.setWidth 6) s)
  else rejectArg .enablePipes mask s

/-- ENABLE_PIPES, R138. -/
def execEnablePipes (mask : Byte) (s : State) : Host.Outcome State Fault Refusal :=
  .next (gate .enablePipes (enablePipesBody mask) s)

/-- DISABLE_PIPES, R139, behind the gate: AND-NOT on the shadow, within 6 bits. -/
def disablePipesBody (mask : Byte) (s : State) : State :=
  if maskLegal mask then respond .ok [] (writePipeMask (s.cfgPipeEn &&& (0x3F#6 ^^^ mask.setWidth 6)) s)
  else rejectArg .disablePipes mask s

/-- DISABLE_PIPES, R139. -/
def execDisablePipes (mask : Byte) (s : State) : Host.Outcome State Fault Refusal :=
  .next (gate .disablePipes (disablePipesBody mask) s)

/-- GET_MODE, R141: `respond(OK, [mode])`. -/
def execGetMode (s : State) : Host.Outcome State Fault Refusal :=
  .next (respond .ok [s.mode.code] s)

end Sys2Proof.Machine
end

