-- ==== Sys2Proof/Machine/Sender.lean ====
section
/-! DEFINITION. The Outbound Sender and the TX-timeout watchdog (42_outbound_sender): `SendBytes`, WRITE_PAYLOAD and RESET_TO_RX.

The sender's wait is the one place where a command yields (20_memory R78). A command that yields leaves the sender's transient
(10_state R33) live in the state and has not responded yet; the foreground's next step goes on with `senderLoop` (log 9). -/

namespace Sys2Proof.Machine

/-- R180, R240: the response of the command the sender works for. -/
def sendResponse (reply : SendReply) (st : Status) (sent : Byte) (s : State) : State :=
  match reply with
  | .write => respond st [sent] s
  | .fwdUp => respond st Action.fwdUp.bytes s
  | .fwdDown c => respond st (Action.fwdDown c).bytes s

/-- R183, R184: the end of `SendBytes`; the transient is no longer live. -/
def finishSend (snd : Sender) (st : Status) (s : State) : State :=
  sendResponse snd.reply st snd.sent { s with sender := none }

/-- R182: the transmit sequence for one chunk, its six actions in order. -/
def transmitFrame (data : List Byte) (s : State) : State :=
  let s1 := driveCe false s
  let s2 := clockSampled { s1 with mode := .transmitting, txStart := clockSample s1 }
  let s3 := radioSetMode .tx s2
  let s4 := radioFlushTx s3
  let s5 := radioWriteTxPayload (frameOf data) s4
  driveCe true s5

/-- R181: the half of a wait's iteration that samples the clock. Past the timeout the watchdog fires and the whole write is
abandoned (R184); otherwise the command yields (R78) with the transient live. -/
def senderExpiry (snd : Sender) (s : State) : State :=
  if expired s.params (clockSample s) snd.tWait then finishSend snd .timeout (watchdogFires (clockSampled s))
  else { clockSampled s with sender := some snd }

/-- R181, R182, R183: the sender goes on from the top of the wait's loop for frame `snd.k`. Completion is tested first. Once the
frame is sent either the write is over, or the wait for the next frame begins; there `mode = Transmitting`, so its first
iteration goes to the clock. -/
def senderLoop (snd : Sender) (s : State) : State :=
  if transmitting s then senderExpiry snd s
  else
    let s1 := transmitFrame (chunk snd.data snd.k) s
    let snd1 := { snd with k := snd.k + 1, sent := snd.sent + 1#8 }
    if snd1.k < frameCount snd.len.toNat then
      senderExpiry { snd1 with tWait := clockSample s1 } (clockSampled s1)
    else finishSend snd1 .ok s1

/-- R183: `SendBytes(data)` begun for a command: the transient is set up, and `t_wait` is sampled for frame 0 (R181). -/
def sendBytes (reply : SendReply) (data : List Byte) (s : State) : State :=
  senderLoop
    { data := data, len := BitVec.ofNat 8 data.length, k := 0, sent := 0#8, tWait := clockSample s, reply := reply }
    (clockSampled s)

/-- WRITE_PAYLOAD, R180. -/
def execWritePayload (data : List Byte) (s : State) : Host.Outcome State Fault Refusal :=
  .next (gate .writePayload (sendBytes .write data) s)

/-- RESET_TO_RX, R186: `gate(); ResetToReceive(); respond(OK)`. -/
def execResetToRx (s : State) : Host.Outcome State Fault Refusal :=
  .next (gate .resetToRx (fun s => respond .ok [] (resetToReceive s)) s)

end Sys2Proof.Machine
end

