-- ==== Sys2Proof/Machine/Router.lean ====
section
/-! DEFINITION. The Tree-Address Router (44_tree_router): the route decision, local dispatch, forwarding and ROUTE_STEP. -/

namespace Sys2Proof.Machine

/-- R244: the results of `RouteDecision`: LOCAL, UP, DOWN(c). -/
inductive Route where
  | here
  | up
  | down (c : Child)
deriving DecidableEq, Repr

/-- R247: `((wD − 1) div 5) + 1` for a width of 1 to 15, which gives 1, 2 or 3 (the last two cases are never reached). -/
def grandchildRoute (w : Nat) : Child :=
  match (w - 1) / Config.fanout with
  | 0 => .c1
  | 1 => .c2
  | 2 => .c3
  | 3 => .c4
  | _ => .c5

/-- R244: `RouteDecision(D, B)`, the first match of five cases; depths and widths are integers 0 to 15. -/
def routeDecision (p : Params) (d b : TreeAddr) : Route :=
  let dD := (addrDepth d).toNat
  let wD := (addrWidth d).toNat
  let dB := (addrDepth b).toNat
  if d = b then .here
  else if dD = dB then .up
  else if dB ≥ 1 ∧ dD = dB - 1 then
    match p.down1 (addrWidth d) (addrDepth b) with
    | none => .up
    | some c => .down c
  else if dB ≥ 2 ∧ dD = dB - 2 then
    if wD = 0 then .up else .down (grandchildRoute wD)
  else .up

/-- R250: the least index of `CMD_TABLE` whose id is `cmd`, counted from `i`, with its expected byte count. -/
def findCommand (cmd : CmdId) : List CmdEntry → Nat → Option (Nat × Byte)
  | [], _ => none
  | e :: es, i => if e.id = cmd then some (i, e.expected) else findCommand cmd es (i + 1)

/-- R240, R241: the response of a ROUTE_STEP. -/
def respondAction (st : Status) (a : Action) (s : State) : State := respond st a.bytes s

/-- R250: `LocalDispatch(S, cmd, n, data)`. -/
def localDispatch (h : Header) (data : List Byte) (s : State) : State :=
  match findCommand h.cmd s.params.cmdTable 0 with
  | none => respondAction .ok .droppedNoHandler (raiseCond (.noHandler h.cmd) s)
  | some (i, expected) =>
    if expected ≠ h.count then respondAction .ok .droppedBadCount (raiseCond (.badCount h.cmd h.count) s)
    else respondAction .ok (.local_ i) (emitDispatch ⟨i, h.src, h.cmd, h.count, data⟩ s)

/-- R254: `Forward(addr, bytes)`: the transmit address is written, then the sender runs. -/
def forward (reply : SendReply) (addr : RadioAddr) (bytes : List Byte) (s : State) : State :=
  sendBytes reply bytes (writeTxAddr (addrHi addr) (addrLo addr) s)

/-- R240: the outcome for a whole packet, by its route. -/
def routePacket (h : Header) (data : List Byte) (s : State) : State :=
  match routeDecision s.params h.dest s.params.boardAddress with
  | .here => localDispatch h data s
  | .up =>
    if s.params.hasParent then forward .fwdUp s.params.parentAddr (h.bytes ++ data) s
    else respondAction .ok .droppedNoRoute (raiseCond (.noRoute h.dest) s)
  | .down c => forward (.fwdDown c) (s.params.childAddrs.get c) (h.bytes ++ data) s

/-- R243: the data phase, with the header of pipe p latched. -/
def dataPhase (p : Pipe) (s : State) : State :=
  let h := s.rtHdr.get p
  if queueCount p s < h.count.toNat then respondAction .pending .none s
  else
    let r := queuePopN p h.count.toNat s
    routePacket h r.1 { r.2 with rtHdrValid := r.2.rtHdrValid.set p false }

/-- R242, R246: the header phase: nine bytes are latched; a declared count above 21 stops the pipe's router. -/
def headerPhase (p : Pipe) (s : State) : State :=
  if queueCount p s < Config.hdrLen then respondAction .pending .none s
  else
    let r := queuePopN p Config.hdrLen s
    let h := Header.ofBytes r.1
    let s1 := { r.2 with rtHdr := r.2.rtHdr.set p h, rtHdrValid := r.2.rtHdrValid.set p true }
    if h.count.toNat > Config.maxCmdData then
      respondAction .routerErr .none (raiseCond (.routerErr p) { s1 with rtErr := s1.rtErr.set p true })
    else dataPhase p s1

/-- R240: ROUTE_STEP on a pipe. -/
def routePipe (p : Pipe) (s : State) : State :=
  if s.rtErr.get p then respondAction .routerErr .none (raiseCond (.routerErr p) s)
  else if s.rtHdrValid.get p then dataPhase p s
  else headerPhase p s

/-- ROUTE_STEP, R240, behind the gate. -/
def routeStepBody (pipe : Byte) (s : State) : State :=
  match Pipe.ofByte? pipe with
  | none => rejectArg .routeStep pipe s
  | some p => routePipe p s

/-- ROUTE_STEP, R240. -/
def execRouteStep (pipe : Byte) (s : State) : Host.Outcome State Fault Refusal :=
  .next (gate .routeStep (routeStepBody pipe) s)

end Sys2Proof.Machine
end

