-- ==== Sys2Proof/Machine/Dispatch.lean ====
section
/-! DEFINITION. The meaning of every operation of spec/opcode_table.json, one arm each (30_encoding R101). -/

namespace Sys2Proof.Machine

def exec (i : Instr) (s : State) : Host.Outcome State Fault Refusal :=
  match i with
  | .init => Sys2Proof.Machine.execInit s
  | .setChannel ch => Sys2Proof.Machine.execSetChannel ch s
  | .setRxAddr pipe hi32 lo8 => Sys2Proof.Machine.execSetRxAddr pipe hi32 lo8 s
  | .setTxAddr hi32 lo8 => Sys2Proof.Machine.execSetTxAddr hi32 lo8 s
  | .enablePipes mask => Sys2Proof.Machine.execEnablePipes mask s
  | .disablePipes mask => Sys2Proof.Machine.execDisablePipes mask s
  | .writePayload data => Sys2Proof.Machine.execWritePayload data s
  | .resetToRx => Sys2Proof.Machine.execResetToRx s
  | .dataReady => Sys2Proof.Machine.execDataReady s
  | .pipeCount pipe => Sys2Proof.Machine.execPipeCount pipe s
  | .pipeRead pipe => Sys2Proof.Machine.execPipeRead pipe s
  | .getCksumErr => Sys2Proof.Machine.execGetCksumErr s
  | .getResetCnt => Sys2Proof.Machine.execGetResetCnt s
  | .getMode => Sys2Proof.Machine.execGetMode s
  | .routeStep pipe => Sys2Proof.Machine.execRouteStep pipe s
  | .checksum data => Sys2Proof.Machine.execChecksum data s
  | .encodeFrame data => Sys2Proof.Machine.execEncodeFrame data s
  | .decodeFrame frame => Sys2Proof.Machine.execDecodeFrame frame s
  | .irqService => Sys2Proof.Machine.execIrqService s

end Sys2Proof.Machine
end

