-- ==== Sys2Proof/Machine/Agents.lean ====
section
/-! DEFINITION. The steps of the agents (20_memory R76 to R78): the foreground takes the oldest command or goes on with the sender's
wait, the interrupt agent runs IRQ_SERVICE, the environment moves. -/

namespace Sys2Proof.Machine

/-- R106, R287: the answer to a message that is no command. -/
def answerMalformed (e : DecodeError) (s : State) : State :=
  match e with
  | .unknownOp op => respond .unknownOp [] (raiseCond (.unknownOp op) s)
  | .badLength o => respond .invalidArg (zeroResult o) (raiseCond (.invalidConfig none) s)

/-- R100, R106: one message, taken from the head of the command stream, executed. -/
def runMessage (m : Message) (s : State) : Host.Outcome State Fault Refusal :=
  match decodeMessage m with
  | .ok i => exec i s
  | .error e => .next (answerMalformed e s)

/-- R76(a), R78: the foreground agent's step. While a command waits at its yield the foreground goes on with it; otherwise it takes
the oldest unexecuted command; with none it has nothing to do. -/
def foregroundStep (s : State) : Host.Outcome State Fault Refusal :=
  match s.sender with
  | some snd => .next (senderLoop snd s)
  | none =>
    match s.hostIn with
    | [] => .next s
    | m :: ms => runMessage m { s with hostIn := ms }

/-- R76(b), R28: the interrupt agent's step; it may run IRQ_SERVICE only when it is enabled. -/
def interruptStep (s : State) : Host.Outcome State Fault Refusal :=
  if irqEnabled s then exec .irqService s else .next s

/-- R76: one move. -/
def perform (m : Move) (s : State) : Host.Outcome State Fault Refusal :=
  match m with
  | .foreground => foregroundStep s
  | .interrupt => interruptStep s
  | .submit msg => .next { s with hostIn := s.hostIn ++ [msg] }
  | .clock t later => .next { s with now := t, nowNext := later }
  | .status r => .next { s with radioStatus := r }
  | .rxFrame f => .next { s with radioFrame := f }
  | .irqLine level => .next (setIrqLine level s)
  | .reset u => .next (hardwareReset u s)

/-- The step: the next move of the agenda; with an empty agenda the environment and the interrupt agent rest and the
foreground moves (log 4). -/
def agentStep (s : State) : Host.Outcome State Fault Refusal :=
  match s.agenda with
  | [] => foregroundStep s
  | m :: rest => perform m { s with agenda := rest }

/-- A state in which the very next step runs the operation of a message: a host command is the oldest of the stream, no command
waits and the foreground moves; for the trace code of IRQ_SERVICE an enabled interrupt is pending and the interrupt agent
moves (log 8). -/
def placeMessage (m : Message) (s : State) : State :=
  if m = ⟨irqServiceCode, []⟩ then { s with irqEn := true, irqPend := true, agenda := .interrupt :: s.agenda }
  else { s with sender := none, hostIn := m :: s.hostIn, agenda := .foreground :: s.agenda }

end Sys2Proof.Machine
end

