-- ==== Sys2Proof/Machine/Step.lean ====
section
/-! DEFINITION. The step of the machine, and how an instruction is placed where the next step takes it. -/

namespace Sys2Proof.Machine

/-- One step of the machine (00_scope R9): one host command (or one iteration of its wait), one IRQ service, or one move of the
environment. -/
def step (s : State) : Host.Outcome State Fault Refusal := agentStep s

/-- `s` with the instruction of an opcode-table word placed so that the next step runs it. -/
def State.withFetchWord (s : State) (nbits w : Nat) : State :=
  match tableMessage nbits w with
  | none => s
  | some m => placeMessage m s

end Sys2Proof.Machine
end

