-- ==== Sys2Proof/Machine/Bus.lean ====
section
/-! DEFINITION. The radio port byte by byte (30_encoding R97, R113 to R116): how the symbolic transactions of the trace look on the
bus. The spec marks every byte value here `[from general knowledge, not in source]`; no step depends on any of them. -/

namespace Sys2Proof.Machine

/-- R113: the register addresses. -/
def RadioReg.address : RadioReg → Byte
  | .config => 0x00#8
  | .enRxaddr => 0x02#8
  | .rfCh => 0x05#8
  | .status => 0x07#8
  | .rxAddr p => BitVec.ofNat 8 (0x0A + p.num)
  | .txAddr => 0x10#8
  | .rxPw p => BitVec.ofNat 8 (0x11 + p.num)

/-- R113: the command byte "write register at 5-bit address `a`". -/
def writeRegCommand (r : RadioReg) : Byte := 0x20#8 ||| r.address

/-- R113: the command byte "read register at address `a`". The LLC issues no such transaction (R311). -/
def readRegCommand (r : RadioReg) : Byte := 0x00#8 ||| r.address

/-- R114: the byte that clears a set of flags, a 1 in the position of each (R97). -/
def flagsByte (rxDr txDs maxRt : Bool) : Byte :=
  (if rxDr then 0x40#8 else 0#8) ||| (if txDs then 0x20#8 else 0#8) ||| (if maxRt then 0x10#8 else 0#8)

/-- R73: the byte `RadioSetMode` writes to `CONFIG`. -/
def modeByte (p : Params) : RadioMode → Byte
  | .rx => p.configBase ||| 0x03#8
  | .tx => p.configBase ||| 0x02#8

/-- R97: the status record in a status byte; bits 7 and 0 are ignored. -/
def StatusRec.ofByte (s : Byte) : StatusRec :=
  ⟨s.getLsbD 6, s.getLsbD 5, s.getLsbD 4, s.extractLsb' 1 3⟩

/-- R113, R116: the bytes the LLC shifts out in a transaction; a write of `ce` is no transaction. -/
def RadioOp.busBytes (p : Params) : RadioOp → List Byte
  | .ce _ => []
  | .writeReg r bytes => writeRegCommand r :: bytes
  | .readStatus => [0xFF#8]
  | .readRxPayload => 0x61#8 :: (List.range 32).map Config.dummyByte
  | .writeTxPayload f => 0xA0#8 :: f
  | .flushTx => [0xE1#8]
  | .flushRx => [0xE2#8]
  | .clearFlags a b c => [writeRegCommand .status, flagsByte a b c]
  | .setMode m => [writeRegCommand .config, modeByte p m]

end Sys2Proof.Machine
end

