-- ==== Sys2Proof/Machine/Radio.lean ====
section
/-! DEFINITION. The radio device as the LLC assumes it (60_exceptions R305 to R309), an ENVIRONMENT model that no step of the machine
uses: 00_scope R8 leaves the inside of the transceiver out, and the spec marks the contract `[from general knowledge, not in
source]` (log 20). It serves as an explicit premise for statements about the hazards R331 to R333 (20_memory R79). -/

namespace Sys2Proof.Machine

/-- What the contract speaks of in the radio: the receive FIFO with each frame's pipe (R305), the transmit FIFO (R306), the flags
(R307), the enable line, and the registers the LLC writes (R113), whose values R305, R306 and R308 read. -/
structure Radio where
  rxFifo   : List (Pipe × List Byte)
  /-- The transmit FIFO. DESIGN CHOICE (log 23): it has room for every frame written; the spec gives it no depth. -/
  txFifo   : List (List Byte)
  /-- R306: the head frame has reached the retransmission limit, and "stays in the transmit FIFO until flushed". -/
  txHeld   : Bool
  rxDr     : Bool
  txDs     : Bool
  maxRt    : Bool
  config   : Byte
  enRxaddr : Byte
  ce       : Bool
  /-- The RF channel. -/
  rfCh     : Byte
  /-- The payload widths of the pipes. -/
  rxPw     : PerPipe Byte
  /-- The receive address of pipe 0. -/
  rxAddr0  : RadioAddr
  /-- The receive address of pipe 1, whose upper bytes pipes 2 to 5 share (R25). -/
  rxAddr1  : RadioAddr
  /-- The low bytes of pipes 2 to 5; the entries of pipes 0 and 1 are not used. -/
  rxLo     : PerPipe Byte
  /-- The destination of transmitted frames (R306). -/
  txAddr   : RadioAddr
  /-- R306: whether automatic acknowledgement is on, a setting "in radio registers the LLC never writes". -/
  autoAck  : Bool
deriving DecidableEq, Repr

/-- R115: the 40-bit address in the five data bytes of a register write, least significant first. -/
def addrOfBytes (b : List Byte) : RadioAddr := b.getD 4 0#8 ++ b.getD 3 0#8 ++ b.getD 2 0#8 ++ b.getD 1 0#8 ++ b.getD 0 0#8

/-- R25: the address the radio compares for a pipe. -/
def Radio.pipeAddress (r : Radio) : Pipe → RadioAddr
  | .p0 => r.rxAddr0
  | .p1 => r.rxAddr1
  | .p2 => addrHi r.rxAddr1 ++ r.rxLo.p2
  | .p3 => addrHi r.rxAddr1 ++ r.rxLo.p3
  | .p4 => addrHi r.rxAddr1 ++ r.rxLo.p4
  | .p5 => addrHi r.rxAddr1 ++ r.rxLo.p5

/-- R309: what the contract says of the radio's own registers after its reset: channel 2, pipes 0 and 1 enabled, their addresses. The
values it does not give are open. -/
def Radio.AfterReset (r : Radio) : Prop :=
  r.rfCh = 2#8 ∧ r.enRxaddr = 0x03#8 ∧ r.rxAddr0 = 0xE7E7E7E7E7#40 ∧ r.rxAddr1 = 0xC2C2C2C2C2#40

/-- R305: `rx_p_no` is the pipe at the head of the receive FIFO, 7 when it is empty. -/
def Radio.statusRec (r : Radio) : StatusRec :=
  ⟨r.rxDr, r.txDs, r.maxRt, match r.rxFifo with
    | [] => 7#3
    | (p, _) :: _ => BitVec.ofNat 3 p.num⟩

/-- R305: the 32 bytes a payload read returns, those of the head frame. -/
def Radio.headFrame (r : Radio) : List Byte :=
  match r.rxFifo with
  | [] => List.replicate 32 0#8
  | (_, f) :: _ => f

/-- R307: the line is low exactly while a flag that `CONFIG` bits 6 to 4 do not mask is set; true is high. -/
def Radio.line (r : Radio) : Bool :=
  !((r.rxDr && !r.config.getLsbD 6) || (r.txDs && !r.config.getLsbD 5) || (r.maxRt && !r.config.getLsbD 4))

/-- R307: a flag is cleared by writing a 1 to its bit position (R97). -/
def Radio.clearFlags (r : Radio) (rxDr txDs maxRt : Bool) : Radio :=
  { r with rxDr := r.rxDr && !rxDr, txDs := r.txDs && !txDs, maxRt := r.maxRt && !maxRt }

/-- R113, R115: a register takes the bytes written to it; for the status register they clear flags (R114). -/
def Radio.writeReg (r : Radio) (reg : RadioReg) (bytes : List Byte) : Radio :=
  match reg with
  | .config => { r with config := bytes.getD 0 0#8 }
  | .rfCh => { r with rfCh := bytes.getD 0 0#8 }
  | .enRxaddr => { r with enRxaddr := bytes.getD 0 0#8 }
  | .rxAddr .p0 => { r with rxAddr0 := addrOfBytes bytes }
  | .rxAddr .p1 => { r with rxAddr1 := addrOfBytes bytes }
  | .rxAddr .p2 => { r with rxLo := r.rxLo.set .p2 (bytes.getD 0 0#8) }
  | .rxAddr .p3 => { r with rxLo := r.rxLo.set .p3 (bytes.getD 0 0#8) }
  | .rxAddr .p4 => { r with rxLo := r.rxLo.set .p4 (bytes.getD 0 0#8) }
  | .rxAddr .p5 => { r with rxLo := r.rxLo.set .p5 (bytes.getD 0 0#8) }
  | .txAddr => { r with txAddr := addrOfBytes bytes }
  | .rxPw p => { r with rxPw := r.rxPw.set p (bytes.getD 0 0#8) }
  | .status => r.clearFlags ((bytes.getD 0 0#8).getLsbD 6) ((bytes.getD 0 0#8).getLsbD 5) ((bytes.getD 0 0#8).getLsbD 4)

/-- R305 to R308: what a transaction of the LLC does to the radio. -/
def Radio.react (p : Params) (r : Radio) : RadioOp → Radio
  | .ce b => { r with ce := b }
  | .writeReg reg bytes => r.writeReg reg bytes
  | .readStatus => r
  | .readRxPayload => { r with rxFifo := r.rxFifo.drop 1 }
  | .writeTxPayload f => { r with txFifo := r.txFifo ++ [f] }
  | .flushTx => { r with txFifo := [], txHeld := false }
  | .flushRx => { r with rxFifo := [] }
  | .clearFlags a b c => r.clearFlags a b c
  | .setMode m => { r with config := modeByte p m }

/-- The radio after a sequence of transactions. -/
def Radio.reactAll (p : Params) (r : Radio) (ts : List RadioOp) : Radio := ts.foldl (Radio.react p) r

/-- R308: the radio listens while the enable line is high with primary-receive (`CONFIG` bit 0) set. -/
def Radio.listening (r : Radio) : Bool := r.ce && r.config.getLsbD 0

/-- R305: a frame sent to `addr` arrives on a pipe that is enabled and has this address, with room in the three-deep FIFO, while the
radio listens; otherwise nothing is delivered. -/
def Radio.arrive (r : Radio) (addr : RadioAddr) (p : Pipe) (f : List Byte) : Radio :=
  if r.listening && r.enRxaddr.getLsbD p.num && r.pipeAddress p = addr && r.rxFifo.length < 3 then
    { r with rxFifo := r.rxFifo ++ [(p, f)], rxDr := true }
  else r

/-- R306: the radio sends with the enable line high, power up (`CONFIG` bit 1), primary-transmit (bit 0 clear) and a frame in the
transmit FIFO. PRESUMED (log 20): while `max_rt` stands it sends nothing. -/
def Radio.sending (r : Radio) : Bool :=
  r.ce && r.config.getLsbD 1 && !r.config.getLsbD 0 && !r.txFifo.isEmpty && !r.maxRt

/-- R306: what goes on the air: the frame at the head of the transmit FIFO, to the address in `TX_ADDR`. DESIGN CHOICE (log 24): as
both stand now, also when they changed under a frame in flight (R336). -/
def Radio.onAir (r : Radio) : Option (RadioAddr × List Byte) :=
  if r.sending then r.txFifo.head?.map fun f => (r.txAddr, f) else none

/-- R306: "the radio expects the receive address of pipe 0 to equal `TX_ADDR`": it takes an acknowledgement that came back only
then (log 20). -/
def Radio.acknowledged (r : Radio) (cameBack : Bool) : Bool := cameBack && r.rxAddr0 = r.txAddr

/-- R306: the transmission of the head frame ends. Without automatic acknowledgement, and with it when the acknowledgement has come
back, the frame has been sent; with it and none, the retransmission limit is reached. A frame that has reached it stays in the FIFO until
flushed, even when it is sent again and gets through (log 20). DESIGN CHOICE (log 24): a transmission begun ends only while
`Radio.sending` still holds; what becomes of it after `ce` falls or the configuration changes is open (R308, R336). -/
def Radio.conclude (r : Radio) (cameBack : Bool) : Radio :=
  if r.sending then
    if !r.autoAck || r.acknowledged cameBack then
      { r with txFifo := if r.txHeld then r.txFifo else r.txFifo.drop 1, txDs := true }
    else { r with maxRt := true, txHeld := true }
  else r

/-- The LLC's inputs as this radio drives them: status record, head frame, interrupt line (R68, R69, R307). -/
def Radio.drive (r : Radio) (s : State) : State :=
  setIrqLine r.line { s with radioStatus := r.statusRec, radioFrame := r.headFrame }

end Sys2Proof.Machine
end

