-- ==== Sys2Proof/Safety.lean ====
section
/-! DEFINITION. What claims about runs speak of: the invariants the spec states of every reachable state, the runs themselves, and
the next move. A run of this machine never stops (it has no faults); a safe run is one whose every state has `MachineInvariant`. -/

namespace Sys2Proof.Machine

/-- R60: `0 ≤ len(q[p]) ≤ QUEUE_CAP`. -/
def QueuesBounded (s : State) : Prop := ∀ p, queueCount p s ≤ s.params.queueCap

/-- R31: the counters are `CNT_W` bits wide and "stick at `2^CNT_W − 1`". -/
def CountersBounded (s : State) : Prop :=
  s.cntCksumErr ≤ 2 ^ s.params.cntW - 1 ∧ s.cntReset ≤ 2 ^ s.params.cntW - 1

/-- R301: Standby is "between hardware reset and the first INIT: `ce = 0`, interrupts masked, radio-dependent commands refused". -/
def StandbyQuiet (s : State) : Prop :=
  s.mode = .standby → s.ce = false ∧ s.irqEn = false ∧ s.sender = none

/-- R130, R290, R182, R185, R212: outside Standby interrupts are enabled and, between steps, the enable line is high. -/
def ActiveEnabled (s : State) : Prop := s.mode ≠ .standby → s.ce = true ∧ s.irqEn = true

/-- R21: "Invariant: channel ≤ 125", from the first INIT on. -/
def ChannelLegal (s : State) : Prop := s.mode ≠ .standby → s.cfgChannel.toNat ≤ Config.maxChannel

/-- R28: while `irq_en = 0`, `irq_pend` stays 0. -/
def PendingMasked (s : State) : Prop := s.irqEn = false → s.irqPend = false

/-- R34, R246: a pipe with the sticky error holds the offending header; a latched header without it declares at most 21. -/
def LatchesConsistent (s : State) : Prop :=
  ∀ p, (s.rtErr.get p = true → s.rtHdrValid.get p = true ∧ Config.maxCmdData < (s.rtHdr.get p).count.toNat) ∧
    (s.rtHdrValid.get p = true → s.rtErr.get p = false → (s.rtHdr.get p).count.toNat ≤ Config.maxCmdData)

/-- R33, R183: a live transient belongs to a write of at most 255 bytes that still has frames to send. -/
def SenderConsistent (s : State) : Prop :=
  ∀ snd, s.sender = some snd →
    snd.len.toNat = snd.data.length ∧ snd.sent.toNat = snd.k ∧ snd.k < frameCount snd.data.length

/-- The invariant of the machine. -/
structure MachineInvariant (s : State) : Prop where
  params   : s.params.InRange
  queues   : QueuesBounded s
  counters : CountersBounded s
  standby  : StandbyQuiet s
  active   : ActiveEnabled s
  channel  : ChannelLegal s
  pending  : PendingMasked s
  latches  : LatchesConsistent s
  sender   : SenderConsistent s

/-- The states of the machine's runs: from hardware reset, with any build in R11's ranges, any unspecified values and any agenda of
moves. -/
inductive Reachable : State → Prop where
  | start (p : Params) (u : Unspecified) (agenda : List Move) :
      p.InRange → Reachable { State.resetWith p u with agenda := agenda }
  | step (s t : State) : Reachable s → step s = .next t → Reachable t

/-- The move the next step makes (log 4). -/
def nextMove (s : State) : Move := s.agenda.headD .foreground

/-- The state the next move acts on: the agenda without it. -/
def moved (s : State) : State := { s with agenda := s.agenda.tail }

/-- The next step is the foreground's. -/
def ForegroundNext (s : State) : Prop := nextMove s = .foreground

/-- The next step is a hardware reset. -/
def ResetNext (s : State) : Prop := ∃ u, nextMove s = .reset u

/-- R100: 1 while a command is executing at a yield and has not responded, else 0. -/
def inProgress (s : State) : Nat := if s.sender.isSome then 1 else 0

/-- `n` steps of the machine lead from `s` to `t`. -/
def Runs : Nat → State → State → Prop
  | 0, s, t => s = t
  | n + 1, s, t => ∃ u, step s = .next u ∧ Runs n u t

/-! ## Terms of the claims -/

/-- R355: the state after the next `n` samplings of the clock. -/
def afterSamples : Nat → State → State
  | 0, s => s
  | n + 1, s => afterSamples n (clockSampled s)

/-- R355: what the n-th sampling of the clock from here returns, counted from 0. -/
def sample (n : Nat) (s : State) : Clock := (afterSamples n s).now

/-- The command an operation is (R101); none for IRQ_SERVICE. -/
def Instr.op? : Instr → Option Op
  | .init => some .init
  | .setChannel _ => some .setChannel
  | .setRxAddr _ _ _ => some .setRxAddr
  | .setTxAddr _ _ => some .setTxAddr
  | .enablePipes _ => some .enablePipes
  | .disablePipes _ => some .disablePipes
  | .writePayload _ => some .writePayload
  | .resetToRx => some .resetToRx
  | .dataReady => some .dataReady
  | .pipeCount _ => some .pipeCount
  | .pipeRead _ => some .pipeRead
  | .getCksumErr => some .getCksumErr
  | .getResetCnt => some .getResetCnt
  | .getMode => some .getMode
  | .routeStep _ => some .routeStep
  | .checksum _ => some .checksum
  | .encodeFrame _ => some .encodeFrame
  | .decodeFrame _ => some .decodeFrame
  | .irqService => none

/-- R105: the nine commands behind the gate. -/
def gatedOps : List Op :=
  [.setChannel, .setRxAddr, .setTxAddr, .enablePipes, .disablePipes, .writePayload, .resetToRx, .dataReady, .routeStep]

/-- The frames handed to the radio in a trace (R70). -/
def framesWritten (tr : List RadioOp) : List (List Byte) :=
  tr.filterMap fun t => match t with
    | .writeTxPayload f => some f
    | _ => none

/-- R93, R242, R243: a whole packet with the header `h` and the data bytes `data` stands at the head of pipe p's stream, its header
still queued or already latched, and the bytes of `rest` behind it; the pipe's router has not stopped. -/
def PacketReady (p : Pipe) (h : Header) (data rest : List Byte) (s : State) : Prop :=
  s.rtErr.get p = false ∧ data.length = h.h8.toNat ∧ h.h8.toNat ≤ 21 ∧
    ((s.rtHdrValid.get p = false ∧
        s.q.get p = [h.h0, h.h1, h.h2, h.h3, h.h4, h.h5, h.h6, h.h7, h.h8] ++ data ++ rest) ∨
      (s.rtHdrValid.get p = true ∧ s.rtHdr.get p = h ∧ s.q.get p = data ++ rest))

/-- R242, R243: the state once the router has taken that packet: its bytes are consumed, in order, and the header is no longer
waiting. -/
def packetTaken (p : Pipe) (h : Header) (rest : List Byte) (s : State) : State :=
  { s with q := s.q.set p rest, rtHdr := s.rtHdr.set p h, rtHdrValid := s.rtHdrValid.set p false }

/-- R240, R254: a packet to `d` leaves by radio for the address `a`, the parent's or a child's (R11), with the reply that ends the
ROUTE_STEP and that reply's bytes `action` and `arg` (R241). -/
def ForwardedTo (p : Params) (d : TreeAddr) (a : RadioAddr) (reply : SendReply) (act : List Byte) : Prop :=
  (routeDecision p d p.boardAddress = .up ∧ p.hasParent = true ∧ a = p.parentAddr ∧ reply = .fwdUp ∧ act = [2#8, 0#8]) ∨
    ∃ c : Child, routeDecision p d p.boardAddress = .down c ∧
      [p.childAddrs.a1, p.childAddrs.a2, p.childAddrs.a3, p.childAddrs.a4, p.childAddrs.a5][c.num - 1]? = some a ∧
      reply = .fwdDown c ∧ act = [3#8, BitVec.ofNat 8 c.num]

/-! ## When Transmitting is left (R338) -/

/-- R76, R338: a run without end from `σ 0`: one step after another, and between two steps the environment says anew which moves come
(log 4), so that messages, interrupts and clock values keep arriving. -/
def Trace (σ : Nat → State) : Prop := ∀ n, ∃ t agenda, step (σ n) = .next t ∧ σ (n + 1) = { t with agenda := agenda }

/-- R338: "the completion interrupt is served" by the next step. -/
def CompletionServed (s : State) : Prop :=
  nextMove s = .interrupt ∧ s.irqEn = true ∧ s.irqPend = true ∧ (s.radioStatus.txDs = true ∨ s.radioStatus.maxRt = true)

/-- R240: ROUTE_STEP on this pipe forwards a packet. -/
def Forwards (pipe : Byte) (s : State) : Prop :=
  ∃ p h data rest a reply act, pipe.toNat = Pipe.num p ∧ PacketReady p h data rest s ∧
    ForwardedTo s.params (h.h0 ++ h.h1 ++ h.h2) a reply act

/-- R338: the next step executes one of "WRITE_PAYLOAD, a forwarding ROUTE_STEP, DATA_READY (at a moment when the elapsed time is in
the window of rule R334), RESET_TO_RX or INIT". -/
def HostAttends (s : State) : Prop :=
  ForegroundNext s ∧ s.sender = none ∧ ∃ m ms i, s.hostIn = m :: ms ∧ decodeMessage m = .ok i ∧
    ((∃ data, i = .writePayload data) ∨ (∃ pipe, i = .routeStep pipe ∧ Forwards pipe s) ∨
      (i = .dataReady ∧ s.params.txTimeoutMs.toNat < (s.now - s.txStart).toNat) ∨ i = .resetToRx ∨ i = .init)

/-- R181, R190: the next step is a waiting command's, and the sample it takes lies past the timeout. -/
def WaitExpires (s : State) : Prop :=
  ForegroundNext s ∧ ∃ snd, s.sender = some snd ∧ s.params.txTimeoutMs.toNat < (s.now - snd.tWait).toNat

/-- R338: nobody attends to the LLC in the next step: no reset, no completion served, no command executing or submitted. -/
def NobodyAttends (s : State) : Prop :=
  ¬ ResetNext s ∧ ¬ CompletionServed s ∧ (ForegroundNext s → s.sender = none ∧ s.hostIn = [])

end Sys2Proof.Machine
end

