-- ==== Sys2Proof/Certificates/Slice0/Obligations.lean ====
section
/-! DEFINITION. The statements for the provers. The rules are those of spec/; "log n" is notes/assumptions/n.md. -/

open Sys2Proof Sys2Proof.Machine

/-! ## The host command port -/

/-- R101 to R103: decoding the message of a well-formed operation gives it back, with every operand; for IRQ_SERVICE the message is
its trace code, which is no host message (log 8). -/
def Obligations.DecodeOfEncodeIsTheInstruction : Prop :=
  ∀ i : Instr, i.wellFormed = true →
    decodeTrace (encode i) = .ok i ∧ (i ≠ .irqService → decodeMessage (encode i) = .ok i)

/-- R101 to R103: a message that decodes is the message of what it decodes to, which is a well-formed host command. -/
def Obligations.EncodeOfDecodeIsTheMessage : Prop :=
  ∀ (m : Message) (i : Instr), decodeMessage m = .ok i → encode i = m ∧ i.wellFormed = true ∧ i ≠ .irqService

/-- Messages of 95_test_vectors section 3 (V30 to V40), written out from R101 to R103, decode to the commands they stand for; 0x80 is
reserved as a host message (V42). -/
def Obligations.SampleMessagesDecode : Prop :=
  decodeMessage ⟨0x01#8, []⟩ = .ok .init ∧
  decodeMessage ⟨0x02#8, [0x4C#8]⟩ = .ok (.setChannel 76#8) ∧
  decodeMessage ⟨0x03#8, [0x03#8, 0x12#8, 0x34#8, 0x56#8, 0x78#8, 0xC4#8]⟩ = .ok (.setRxAddr 3#8 0x12345678#32 0xC4#8) ∧
  decodeMessage ⟨0x04#8, [0xF0#8, 0xF0#8, 0xF0#8, 0xF0#8, 0xD2#8]⟩ = .ok (.setTxAddr 0xF0F0F0F0#32 0xD2#8) ∧
  decodeMessage ⟨0x05#8, [0x0C#8]⟩ = .ok (.enablePipes 0x0C#8) ∧
  decodeMessage ⟨0x07#8, [0x03#8, 0x01#8, 0x02#8, 0x03#8]⟩ = .ok (.writePayload [1#8, 2#8, 3#8]) ∧
  decodeMessage ⟨0x0B#8, [0x02#8]⟩ = .ok (.pipeRead 2#8) ∧
  decodeMessage ⟨0x0F#8, [0x01#8]⟩ = .ok (.routeStep 1#8) ∧
  decodeMessage ⟨0x80#8, []⟩ = .error (.unknownOp 0x80#8)

/-- R106, R104: a reserved operation code is answered `UNKNOWN_OP`, one byte; a listed code with another length than its format's is
answered `INVALID_ARG` with as many zero bytes as the operation's result shape has; neither changes anything else. The shape of
DECODE_FRAME's zero result and the ghost condition's value are the model's reading (logs 10, 11). -/
def Obligations.ReservedAndMalformedMessagesAnswered : Prop :=
  ∀ (s : State) (m : Message) (ms : List Message),
    ForegroundNext s → s.sender = none → s.hostIn = m :: ms →
    ((m.op = 0x00#8 ∨ 0x13#8 ≤ m.op) →
      step s = .next { moved s with
        hostIn := ms, conditions := s.conditions ++ [.unknownOp m.op], hostOut := s.hostOut ++ [[0xFF#8]] }) ∧
    (∀ o zeros, Op.ofCode? m.op = some o → m.rest.length ≠ operandLength o.format m.rest →
      (o, zeros) ∈
        [(Op.init, []), (.setChannel, []), (.setRxAddr, []), (.setTxAddr, []), (.enablePipes, []), (.disablePipes, []),
         (.resetToRx, []), (.writePayload, [0#8]), (.dataReady, [0#8]), (.pipeCount, [0#8, 0#8]), (.pipeRead, [0#8]),
         (.getCksumErr, [0#8, 0#8]), (.getResetCnt, [0#8, 0#8]), (.getMode, [0#8]), (.routeStep, [0#8, 0#8]),
         (.checksum, [0#8]), (.encodeFrame, List.replicate 32 0#8), (.decodeFrame, [0#8, 0#8])] →
      step s = .next { moved s with
        hostIn := ms, conditions := s.conditions ++ [.invalidConfig none], hostOut := s.hostOut ++ [0x01#8 :: zeros] })

/-- R76, R100, R78, R210: the foreground's step runs the command that the oldest message decodes to; while a command waits it goes on
with it instead; with neither it changes nothing; the interrupt agent's step runs IRQ_SERVICE when it is enabled. The environment's
steps change their own input alone, and a submitted message goes behind those already submitted, so messages execute in arrival
order. An empty agenda moves the foreground (log 4). -/
def Obligations.StepRunsTheDecodedInstruction : Prop :=
  ∀ s : State,
    (∀ m ms i, ForegroundNext s → s.sender = none → s.hostIn = m :: ms → decodeMessage m = .ok i →
      step s = exec i { moved s with hostIn := ms }) ∧
    (∀ snd, ForegroundNext s → s.sender = some snd → step s = .next (senderLoop snd (moved s))) ∧
    (ForegroundNext s → s.sender = none → s.hostIn = [] → step s = .next (moved s)) ∧
    (nextMove s = .interrupt → s.irqEn = true → s.irqPend = true → step s = exec .irqService (moved s)) ∧
    (∀ m, nextMove s = .submit m → step s = .next { moved s with hostIn := s.hostIn ++ [m] }) ∧
    (∀ c later, nextMove s = .clock c later → step s = .next { moved s with now := c, nowNext := later }) ∧
    (∀ r, nextMove s = .status r → step s = .next { moved s with radioStatus := r }) ∧
    (∀ f, nextMove s = .rxFrame f → step s = .next { moved s with radioFrame := f })

/-- R105: in Standby the nine gated commands are refused with `NOT_INIT` and zeros, before any operand check, with no state change
and no transaction (the ghost trace aside); the other operations never answer `NOT_INIT`. -/
def Obligations.GateRefusesInStandby : Prop :=
  ∀ (s : State) (i : Instr),
    (∀ o zeros, Instr.op? i = some o → s.mode = .standby →
      (o, zeros) ∈
        [(Op.setChannel, []), (.setRxAddr, []), (.setTxAddr, []), (.enablePipes, []), (.disablePipes, []),
         (.writePayload, [0#8]), (.resetToRx, []), (.dataReady, [0#8]), (.routeStep, [0#8, 0#8])] →
      exec i s = .next { s with
        conditions := s.conditions ++ [.notInit], hostOut := s.hostOut ++ [0x03#8 :: zeros] }) ∧
    ((∀ o, Instr.op? i = some o → o ∉ gatedOps) →
      ∀ t r, exec i s = .next t → t.hostOut = s.hostOut ++ [r] → r.head? ≠ some 0x03#8)

/-- R100: every message gets exactly one response: a foreground step that takes a message adds one response or leaves one command in
progress, a step that goes on with a waiting command keeps the sum, no other agent responds, and no response is taken back. -/
def Obligations.EveryMessageGetsOneResponse : Prop :=
  ∀ s t : State, step s = .next t → ¬ ResetNext s →
    (ForegroundNext s →
      t.hostOut.length + inProgress t =
        s.hostOut.length + inProgress s + (if s.sender.isNone && !s.hostIn.isEmpty then 1 else 0)) ∧
    (¬ ForegroundNext s → t.hostOut = s.hostOut ∧ t.sender = s.sender) ∧
    s.hostOut <+: t.hostOut

/-! ## Radio Mode Controller -/

/-- R130: INIT, its eleven actions in order, in any mode (R131(f)); every field it does not name is unchanged. -/
def Obligations.InitBringsTheRadioUp : Prop :=
  ∀ s : State,
    decodeMessage ⟨0x01#8, []⟩ = .ok .init ∧
    exec .init s = .next { s with
      mode := .receiving, ce := true, irqEn := true, irqPend := false,
      cfgChannel := s.params.defaultChannel, cfgPipeEn := s.params.initPipeMask,
      radioTrace := s.radioTrace ++
        [.ce false, .writeReg .rfCh [s.params.defaultChannel.setWidth 8],
         .writeReg (.rxPw .p0) [32#8], .writeReg (.rxPw .p1) [32#8], .writeReg (.rxPw .p2) [32#8],
         .writeReg (.rxPw .p3) [32#8], .writeReg (.rxPw .p4) [32#8], .writeReg (.rxPw .p5) [32#8],
         .writeReg .enRxaddr [s.params.initPipeMask.setWidth 8], .flushTx, .flushRx, .clearFlags true true true,
         .setMode .rx, .ce true],
      hostOut := s.hostOut ++ [[0x00#8]] }

/-- R132: SET_CHANNEL, every operand, in every mode. -/
def Obligations.SetChannelResult : Prop :=
  ∀ (s : State) (ch : Byte),
    decodeMessage ⟨0x02#8, [ch]⟩ = .ok (.setChannel ch) ∧
    (s.mode = .standby →
      exec (.setChannel ch) s = .next { s with
        conditions := s.conditions ++ [.notInit], hostOut := s.hostOut ++ [[0x03#8]] }) ∧
    (s.mode ≠ .standby → 125 < ch.toNat →
      exec (.setChannel ch) s = .next { s with
        conditions := s.conditions ++ [.invalidConfig (some ch)], hostOut := s.hostOut ++ [[0x01#8]] }) ∧
    (s.mode ≠ .standby → ch.toNat ≤ 125 →
      exec (.setChannel ch) s = .next { s with
        cfgChannel := ch.setWidth 7, radioTrace := s.radioTrace ++ [.writeReg .rfCh [ch]],
        hostOut := s.hostOut ++ [[0x00#8]] })

/-- R134, R115: SET_RX_ADDR. Pipes 0 and 1 take both address parts, pipes 2 to 5 the low byte alone. -/
def Obligations.SetRxAddrResult : Prop :=
  ∀ (s : State) (pipe : Byte) (hi32 : Hi32) (lo8 : Byte),
    decodeMessage
      ⟨0x03#8, [pipe, hi32.extractLsb' 24 8, hi32.extractLsb' 16 8, hi32.extractLsb' 8 8, hi32.extractLsb' 0 8, lo8]⟩ =
        .ok (.setRxAddr pipe hi32 lo8) ∧
    (s.mode = .standby →
      exec (.setRxAddr pipe hi32 lo8) s = .next { s with
        conditions := s.conditions ++ [.notInit], hostOut := s.hostOut ++ [[0x03#8]] }) ∧
    (s.mode ≠ .standby → 6 ≤ pipe.toNat →
      exec (.setRxAddr pipe hi32 lo8) s = .next { s with
        conditions := s.conditions ++ [.invalidConfig (some pipe)], hostOut := s.hostOut ++ [[0x01#8]] }) ∧
    (s.mode ≠ .standby → pipe = 0#8 →
      exec (.setRxAddr pipe hi32 lo8) s = .next { s with
        cfgRxHi0 := hi32, cfgRxLo := s.cfgRxLo.set .p0 lo8,
        radioTrace := s.radioTrace ++
          [.writeReg (.rxAddr .p0)
            [lo8, hi32.extractLsb' 0 8, hi32.extractLsb' 8 8, hi32.extractLsb' 16 8, hi32.extractLsb' 24 8]],
        hostOut := s.hostOut ++ [[0x00#8]] }) ∧
    (s.mode ≠ .standby → pipe = 1#8 →
      exec (.setRxAddr pipe hi32 lo8) s = .next { s with
        cfgRxHi1 := hi32, cfgRxLo := s.cfgRxLo.set .p1 lo8,
        radioTrace := s.radioTrace ++
          [.writeReg (.rxAddr .p1)
            [lo8, hi32.extractLsb' 0 8, hi32.extractLsb' 8 8, hi32.extractLsb' 16 8, hi32.extractLsb' 24 8]],
        hostOut := s.hostOut ++ [[0x00#8]] }) ∧
    (∀ p : Pipe, s.mode ≠ .standby → pipe.toNat = p.num → 2 ≤ p.num →
      exec (.setRxAddr pipe hi32 lo8) s = .next { s with
        cfgRxLo := s.cfgRxLo.set p lo8, radioTrace := s.radioTrace ++ [.writeReg (.rxAddr p) [lo8]],
        hostOut := s.hostOut ++ [[0x00#8]] })

/-- R25: the 40-bit addresses; a SET_RX_ADDR on pipe 1 changes the effective address of pipes 2 to 5 as well. -/
def Obligations.PipeOneMovesTheSharedUpperBytes : Prop :=
  ∀ s : State,
    rxAddress .p0 s = s.cfgRxHi0 ++ s.cfgRxLo.get .p0 ∧ rxAddress .p1 s = s.cfgRxHi1 ++ s.cfgRxLo.get .p1 ∧
    (∀ p : Pipe, 2 ≤ p.num → rxAddress p s = s.cfgRxHi1 ++ s.cfgRxLo.get p) ∧
    txAddress s = s.cfgTxHi ++ s.cfgTxLo ∧
    ∀ (hi32 : Hi32) (lo8 : Byte), s.mode ≠ .standby →
      ∃ t, exec (.setRxAddr 1#8 hi32 lo8) s = .next t ∧ rxAddress .p0 t = rxAddress .p0 s ∧
        rxAddress .p1 t = hi32 ++ lo8 ∧ ∀ p : Pipe, 2 ≤ p.num → rxAddress p t = hi32 ++ s.cfgRxLo.get p

/-- R136, R115: SET_TX_ADDR, every operand, refused by the gate alone. -/
def Obligations.SetTxAddrResult : Prop :=
  ∀ (s : State) (hi32 : Hi32) (lo8 : Byte),
    decodeMessage
      ⟨0x04#8, [hi32.extractLsb' 24 8, hi32.extractLsb' 16 8, hi32.extractLsb' 8 8, hi32.extractLsb' 0 8, lo8]⟩ =
        .ok (.setTxAddr hi32 lo8) ∧
    (s.mode = .standby →
      exec (.setTxAddr hi32 lo8) s = .next { s with
        conditions := s.conditions ++ [.notInit], hostOut := s.hostOut ++ [[0x03#8]] }) ∧
    (s.mode ≠ .standby →
      exec (.setTxAddr hi32 lo8) s = .next { s with
        cfgTxHi := hi32, cfgTxLo := lo8,
        radioTrace := s.radioTrace ++
          [.writeReg .txAddr
            [lo8, hi32.extractLsb' 0 8, hi32.extractLsb' 8 8, hi32.extractLsb' 16 8, hi32.extractLsb' 24 8]],
        hostOut := s.hostOut ++ [[0x00#8]] })

/-- R138, R139: ENABLE_PIPES and DISABLE_PIPES, OR and AND-NOT on the shadow. -/
def Obligations.PipeMaskResults : Prop :=
  ∀ (s : State) (mask : Byte),
    decodeMessage ⟨0x05#8, [mask]⟩ = .ok (.enablePipes mask) ∧
    decodeMessage ⟨0x06#8, [mask]⟩ = .ok (.disablePipes mask) ∧
    (∀ i, i = Instr.enablePipes mask ∨ i = Instr.disablePipes mask →
      (s.mode = .standby →
        exec i s = .next { s with conditions := s.conditions ++ [.notInit], hostOut := s.hostOut ++ [[0x03#8]] }) ∧
      (s.mode ≠ .standby → 0x3F < mask.toNat →
        exec i s = .next { s with
          conditions := s.conditions ++ [.invalidConfig (some mask)], hostOut := s.hostOut ++ [[0x01#8]] })) ∧
    (s.mode ≠ .standby → mask.toNat ≤ 0x3F →
      exec (.enablePipes mask) s = .next { s with
        cfgPipeEn := s.cfgPipeEn ||| mask.setWidth 6,
        radioTrace := s.radioTrace ++ [.writeReg .enRxaddr [(s.cfgPipeEn ||| mask.setWidth 6).setWidth 8]],
        hostOut := s.hostOut ++ [[0x00#8]] } ∧
      exec (.disablePipes mask) s = .next { s with
        cfgPipeEn := s.cfgPipeEn &&& ~~~(mask.setWidth 6),
        radioTrace := s.radioTrace ++ [.writeReg .enRxaddr [(s.cfgPipeEn &&& ~~~(mask.setWidth 6)).setWidth 8]],
        hostOut := s.hostOut ++ [[0x00#8]] })

/-- R141: GET_MODE. -/
def Obligations.GetModeResult : Prop :=
  ∀ s : State,
    decodeMessage ⟨0x0E#8, []⟩ = .ok .getMode ∧
    (s.mode = .standby → exec .getMode s = .next { s with hostOut := s.hostOut ++ [[0x00#8, 0#8]] }) ∧
    (s.mode = .receiving → exec .getMode s = .next { s with hostOut := s.hostOut ++ [[0x00#8, 1#8]] }) ∧
    (s.mode = .transmitting → exec .getMode s = .next { s with hostOut := s.hostOut ++ [[0x00#8, 2#8]] })

/-- R97, R113 to R116: the radio port's transactions as bus bytes, for every parameter and operand, and the status byte's fields;
all 64 records are the record of some byte (R68). The spec marks these bytes as general knowledge. -/
def Obligations.RadioTransactionsAsBusBytes : Prop :=
  ∀ (p : Params) (ch m lo8 : Byte) (hi32 : Hi32) (f : List Byte) (pipe : Pipe),
    RadioOp.busBytes p (.writeReg .rfCh [ch]) = [0x25#8, ch] ∧
    RadioOp.busBytes p (.writeReg .enRxaddr [m]) = [0x22#8, m] ∧
    RadioOp.busBytes p (.writeReg (.rxPw pipe) [0x20#8]) = [BitVec.ofNat 8 (0x31 + pipe.num), 0x20#8] ∧
    RadioOp.busBytes p (.setMode .rx) = [0x20#8, p.configBase ||| 0x03#8] ∧
    RadioOp.busBytes p (.setMode .tx) = [0x20#8, p.configBase ||| 0x02#8] ∧
    RadioOp.busBytes p .flushTx = [0xE1#8] ∧ RadioOp.busBytes p .flushRx = [0xE2#8] ∧
    RadioOp.busBytes p .readStatus = [0xFF#8] ∧
    (∃ dummies, dummies.length = 32 ∧ RadioOp.busBytes p .readRxPayload = 0x61#8 :: dummies) ∧
    RadioOp.busBytes p (.writeTxPayload f) = 0xA0#8 :: f ∧
    RadioOp.busBytes p (.clearFlags true true true) = [0x27#8, 0x70#8] ∧
    RadioOp.busBytes p (.clearFlags true false false) = [0x27#8, 0x40#8] ∧
    (2 ≤ pipe.num →
      RadioOp.busBytes p (.writeReg (.rxAddr pipe) [lo8]) = [BitVec.ofNat 8 (0x2A + pipe.num), lo8]) ∧
    RadioOp.busBytes p (.writeReg .txAddr (addr5 hi32 lo8)) =
      [0x30#8, lo8, hi32.extractLsb' 0 8, hi32.extractLsb' 8 8, hi32.extractLsb' 16 8, hi32.extractLsb' 24 8] ∧
    RadioOp.busBytes p (.writeReg (.rxAddr pipe) (addr5 hi32 lo8)) =
      [BitVec.ofNat 8 (0x2A + pipe.num), lo8, hi32.extractLsb' 0 8, hi32.extractLsb' 8 8, hi32.extractLsb' 16 8,
        hi32.extractLsb' 24 8] ∧
    (∀ b : Byte, StatusRec.ofByte b = ⟨b.getLsbD 6, b.getLsbD 5, b.getLsbD 4, b.extractLsb' 1 3⟩) ∧
    (∀ r : StatusRec, ∃ b, StatusRec.ofByte b = r)

/-! ## Packet Framing and Checksum Codec -/

/-- R160, R163: CHECKSUM, the byte `255 − ((L + Σ data[i]) mod 256)`, for every length a message can carry. -/
def Obligations.ChecksumResult : Prop :=
  ∀ (s : State) (data : List Byte), data.length ≤ 255 →
    decodeMessage ⟨0x10#8, BitVec.ofNat 8 data.length :: data⟩ = .ok (.checksum data) ∧
    (checksumOf data).toNat = 255 - (data.length + (data.map BitVec.toNat).sum) % 256 ∧
    exec (.checksum data) s = .next { s with hostOut := s.hostOut ++ [[0x00#8, checksumOf data]] }

/-- R161, R164: ENCODE_FRAME: the frame byte by byte for at most 30 data bytes, a rejection above. -/
def Obligations.EncodeFrameResult : Prop :=
  ∀ (s : State) (data : List Byte), data.length ≤ 255 →
    decodeMessage ⟨0x11#8, BitVec.ofNat 8 data.length :: data⟩ = .ok (.encodeFrame data) ∧
    (30 < data.length →
      encodeFrameOf data = none ∧
      exec (.encodeFrame data) s = .next { s with
        conditions := s.conditions ++ [.invalidConfig (some (BitVec.ofNat 8 data.length))],
        hostOut := s.hostOut ++ [0x01#8 :: List.replicate 32 0#8] }) ∧
    (data.length ≤ 30 →
      ∃ f, encodeFrameOf data = some f ∧
        exec (.encodeFrame data) s = .next { s with hostOut := s.hostOut ++ [0x00#8 :: f] } ∧
        f.length = 32 ∧ f[0]? = some (BitVec.ofNat 8 data.length) ∧
        (∀ i, i < data.length → f[i + 1]? = data[i]?) ∧
        f[data.length + 1]? = some (checksumOf data) ∧
        ∀ j, data.length + 2 ≤ j → j ≤ 31 → f[j]? = some 0#8)

/-- R162, R165: DECODE_FRAME on every 32-byte frame; it counts nothing. -/
def Obligations.DecodeFrameResult : Prop :=
  ∀ (s : State) (f : List Byte), f.length = 32 →
    decodeMessage ⟨0x12#8, f⟩ = .ok (.decodeFrame f) ∧
    ∀ n, f[0]? = some n →
      (30 < n.toNat →
        decodeFrameOf f = ⟨n, [], false⟩ ∧
        exec (.decodeFrame f) s = .next { s with hostOut := s.hostOut ++ [[0x00#8, 0x00#8, n]] }) ∧
      (n.toNat ≤ 30 → ∀ stored, f[n.toNat + 1]? = some stored →
        decodeFrameOf f =
          ⟨n, (f.drop 1).take n.toNat, decide (stored = checksumOf ((f.drop 1).take n.toNat))⟩ ∧
        exec (.decodeFrame f) s = .next { s with
          hostOut := s.hostOut ++
            [0x00#8 :: (if stored = checksumOf ((f.drop 1).take n.toNat) then 0x01#8 else 0x00#8) :: n ::
              (f.drop 1).take n.toNat] })

/-- R167: encoding at most 30 bytes and decoding the frame gives the bytes back, valid, in the codec and on the host port. -/
def Obligations.FrameRoundTrip : Prop :=
  ∀ (s : State) (data f : List Byte), encodeFrameOf data = some f →
    decodeFrameOf f = ⟨BitVec.ofNat 8 data.length, data, true⟩ ∧
    exec (.decodeFrame f) s = .next { s with
      hostOut := s.hostOut ++ [0x00#8 :: 0x01#8 :: BitVec.ofNat 8 data.length :: data] }

/-- R168, R169: flipping one bit of a payload byte, or of the checksum byte, makes the frame invalid; flipping a bit of the length
byte need not (the counterexample of C3, vectors V20 and V21). -/
def Obligations.PayloadBitFlipIsDetected : Prop :=
  (∀ (data f : List Byte) (j k : Nat), encodeFrameOf data = some f → 1 ≤ j → j ≤ data.length + 1 → k < 8 →
    (decodeFrameOf (f.set j (f.getD j 0#8 ^^^ (1#8 <<< k)))).valid = false) ∧
  ∃ (data f : List Byte), encodeFrameOf data = some f ∧ (decodeFrameOf (f.set 0 (f.getD 0 0#8 ^^^ 1#8))).valid = true

/-! ## Outbound Sender -/

/-- R180, R182: a write of at most 30 bytes in Receiving: the six actions of the transmit sequence in order, `tx_start` sampled at the
second, and the response `(OK, 1)`. -/
def Obligations.WriteSendsOneFrame : Prop :=
  ∀ (s : State) (data f : List Byte), s.mode = .receiving → encodeFrameOf data = some f →
    exec (.writePayload data) s = .next { afterSamples 2 s with
      mode := .transmitting, txStart := sample 1 s, ce := true, sender := none,
      radioTrace := s.radioTrace ++ [.ce false, .setMode .tx, .flushTx, .writeTxPayload f, .ce true],
      hostOut := s.hostOut ++ [[0x00#8, 0x01#8]] }

/-- R181, R183, R184: a write of 31 to 255 bytes in Receiving sends its first 30 bytes at once and begins the wait for the second
frame: it yields, or the clock has already passed the timeout and the write is abandoned with one frame sent. -/
def Obligations.LongWriteSendsFirstFrameAndWaits : Prop :=
  ∀ (s : State) (data f : List Byte), s.mode = .receiving → 30 < data.length → data.length ≤ 255 →
    encodeFrameOf (data.take 30) = some f →
    ((sample 3 s - sample 2 s).toNat ≤ s.params.txTimeoutMs.toNat →
      exec (.writePayload data) s = .next { afterSamples 4 s with
        mode := .transmitting, txStart := sample 1 s, ce := true,
        radioTrace := s.radioTrace ++ [.ce false, .setMode .tx, .flushTx, .writeTxPayload f, .ce true],
        sender := some
          { data := data, len := BitVec.ofNat 8 data.length, k := 1, sent := 1#8, tWait := sample 2 s, reply := .write } }) ∧
    (s.params.txTimeoutMs.toNat < (sample 3 s - sample 2 s).toNat →
      exec (.writePayload data) s = .next { afterSamples 4 s with
        mode := .receiving, txStart := sample 1 s, ce := true, cntReset := satInc s.params s.cntReset,
        conditions := s.conditions ++ [.txTimeout],
        radioTrace := s.radioTrace ++
          [.ce false, .setMode .tx, .flushTx, .writeTxPayload f, .ce true, .clearFlags true true true, .ce false,
           .setMode .rx, .ce true],
        sender := none, hostOut := s.hostOut ++ [[0x02#8, 0x01#8]] })

/-- R181, R184, R187: a write begun while a transmission is in flight waits from its own first sample of the clock; past the timeout
the recovery path runs and the response is `(TIMEOUT, 0)`. -/
def Obligations.WriteInTransmittingWaits : Prop :=
  ∀ (s : State) (data : List Byte), s.mode = .transmitting → data.length ≤ 255 →
    ((sample 1 s - sample 0 s).toNat ≤ s.params.txTimeoutMs.toNat →
      exec (.writePayload data) s = .next { afterSamples 2 s with
        sender := some
          { data := data, len := BitVec.ofNat 8 data.length, k := 0, sent := 0#8, tWait := sample 0 s, reply := .write } }) ∧
    (s.params.txTimeoutMs.toNat < (sample 1 s - sample 0 s).toNat →
      exec (.writePayload data) s = .next { afterSamples 2 s with
        mode := .receiving, ce := true, cntReset := satInc s.params s.cntReset,
        conditions := s.conditions ++ [.txTimeout],
        radioTrace := s.radioTrace ++ [.clearFlags true true true, .ce false, .setMode .rx, .ce true],
        sender := none, hostOut := s.hostOut ++ [[0x02#8, 0x00#8]] })

/-- R78, R181 to R184: the foreground's step while a command waits. Completion is tested first: then the frame is sent, and the
command responds or begins its next wait. Otherwise the clock decides: the command waits on, or the watchdog fires and the
response is the waiting command's. -/
def Obligations.WaitingCommandGoesOn : Prop :=
  ∀ (s : State) (snd : Sender), ForegroundNext s → s.sender = some snd →
    (s.mode = .transmitting → (s.now - snd.tWait).toNat ≤ s.params.txTimeoutMs.toNat →
      step s = .next (clockSampled (moved s))) ∧
    (s.mode = .transmitting → s.params.txTimeoutMs.toNat < (s.now - snd.tWait).toNat →
      ∃ r, step s = .next { clockSampled (moved s) with
          mode := .receiving, ce := true, cntReset := satInc s.params s.cntReset,
          conditions := s.conditions ++ [.txTimeout],
          radioTrace := s.radioTrace ++ [.clearFlags true true true, .ce false, .setMode .rx, .ce true],
          sender := none, hostOut := s.hostOut ++ [0x02#8 :: r] } ∧
        (snd.reply = .write → r = [snd.sent]) ∧ (snd.reply = .fwdUp → r = [2#8, 0#8]) ∧
        ∀ c, snd.reply = .fwdDown c → r = [3#8, BitVec.ofNat 8 c.num]) ∧
    (s.mode ≠ .transmitting → snd.k + 1 = frameCount snd.len.toNat →
      ∃ r, step s = .next { clockSampled (moved s) with
          mode := .transmitting, txStart := s.now, ce := true,
          radioTrace := s.radioTrace ++
            [.ce false, .setMode .tx, .flushTx, .writeTxPayload (frameOf (chunk snd.data snd.k)), .ce true],
          sender := none, hostOut := s.hostOut ++ [0x00#8 :: r] } ∧
        (snd.reply = .write → r = [snd.sent + 1#8]) ∧ (snd.reply = .fwdUp → r = [2#8, 0#8]) ∧
        ∀ c, snd.reply = .fwdDown c → r = [3#8, BitVec.ofNat 8 c.num]) ∧
    (s.mode ≠ .transmitting → snd.k + 1 < frameCount snd.len.toNat →
      ((sample 2 s - sample 1 s).toNat ≤ s.params.txTimeoutMs.toNat →
        step s = .next { afterSamples 3 (moved s) with
          mode := .transmitting, txStart := s.now, ce := true,
          radioTrace := s.radioTrace ++
            [.ce false, .setMode .tx, .flushTx, .writeTxPayload (frameOf (chunk snd.data snd.k)), .ce true],
          sender := some { snd with k := snd.k + 1, sent := snd.sent + 1#8, tWait := sample 1 s } }) ∧
      (s.params.txTimeoutMs.toNat < (sample 2 s - sample 1 s).toNat →
        ∃ r, step s = .next { afterSamples 3 (moved s) with
            mode := .receiving, txStart := s.now, ce := true, cntReset := satInc s.params s.cntReset,
            conditions := s.conditions ++ [.txTimeout],
            radioTrace := s.radioTrace ++
              [.ce false, .setMode .tx, .flushTx, .writeTxPayload (frameOf (chunk snd.data snd.k)), .ce true,
               .clearFlags true true true, .ce false, .setMode .rx, .ce true],
            sender := none, hostOut := s.hostOut ++ [0x02#8 :: r] } ∧
          (snd.reply = .write → r = [snd.sent + 1#8]) ∧ (snd.reply = .fwdUp → r = [2#8, 0#8]) ∧
          ∀ c, snd.reply = .fwdDown c → r = [3#8, BitVec.ofNat 8 c.num]))

/-- R190, R338: from Transmitting, with the clock polled and no interrupt served, a WRITE_PAYLOAD ends once a sample lies past the
timeout: the response is `(TIMEOUT, 0)`, the mode is Receiving, `cnt_reset` has grown by one (unless saturated), no frame was written,
and `cnt_cksum_err` and every queue are unchanged. A forwarding ROUTE_STEP ends the same way: its packet is lost, the transmit address
moved. So on every endless run, the environment giving new moves between steps (log 4), each stay in Transmitting ends, if
whenever a command has left that mode a later step serves a completion or issues one of R338's commands, and whenever a command waits a
later step serves a completion or takes a sample past the timeout (a hardware reset, R23, ends it too). And it is never left while
nobody attends: there is no watchdog agent. -/
def Obligations.WatchdogEndsTheWait : Prop :=
  (∀ (s : State) (data : List Byte) (ms : List Message) (polls : List Clock) (last : Clock) (later : List Move),
    s.mode = .transmitting → s.sender = none → s.nowNext = [] → data.length ≤ 255 →
    s.hostIn = encode (.writePayload data) :: ms →
    s.agenda = .foreground :: ((polls ++ [last]).flatMap (fun c => [Move.clock c [], Move.foreground]) ++ later) →
    (∀ c ∈ polls, (c - s.now).toNat ≤ s.params.txTimeoutMs.toNat) → s.params.txTimeoutMs.toNat < (last - s.now).toNat →
    ∃ t, Runs (1 + 2 * (polls.length + 1)) s t ∧
      t.hostOut = s.hostOut ++ [[0x02#8, 0x00#8]] ∧ t.mode = .receiving ∧ t.cntReset = satInc s.params s.cntReset ∧
      t.radioTrace = s.radioTrace ++ [.clearFlags true true true, .ce false, .setMode .rx, .ce true] ∧
      t.cntCksumErr = s.cntCksumErr ∧ t.q = s.q ∧ t.sender = none ∧ t.agenda = later) ∧
  (∀ (s : State) (pipe : Byte) (p : Pipe) (h : Header) (data rest : List Byte) (a : RadioAddr) (reply : SendReply)
      (act : List Byte) (ms : List Message) (polls : List Clock) (last : Clock) (later : List Move),
    s.mode = .transmitting → s.sender = none → s.nowNext = [] → pipe.toNat = p.num → PacketReady p h data rest s →
    ForwardedTo s.params (h.h0 ++ h.h1 ++ h.h2) a reply act → s.hostIn = encode (.routeStep pipe) :: ms →
    s.agenda = .foreground :: ((polls ++ [last]).flatMap (fun c => [Move.clock c [], Move.foreground]) ++ later) →
    (∀ c ∈ polls, (c - s.now).toNat ≤ s.params.txTimeoutMs.toNat) → s.params.txTimeoutMs.toNat < (last - s.now).toNat →
    ∃ t, Runs (1 + 2 * (polls.length + 1)) s t ∧
      t.hostOut = s.hostOut ++ [0x02#8 :: act] ∧ t.mode = .receiving ∧ t.cntReset = satInc s.params s.cntReset ∧
      t.radioTrace = s.radioTrace ++
        [.writeReg .txAddr
          [a.extractLsb' 0 8, a.extractLsb' 8 8, a.extractLsb' 16 8, a.extractLsb' 24 8, a.extractLsb' 32 8],
         .clearFlags true true true, .ce false, .setMode .rx, .ce true] ∧
      txAddress t = a ∧ t.cntCksumErr = s.cntCksumErr ∧ t.q = s.q.set p rest ∧ t.dispatchOut = s.dispatchOut ∧
      t.sender = none ∧ t.agenda = later) ∧
  (∀ σ : Nat → State, Trace σ →
    (∀ n, (σ n).mode = .transmitting → (σ n).sender = none → ∃ m, n ≤ m ∧
      (CompletionServed (σ m) ∨ HostAttends (σ m) ∨ ResetNext (σ m))) →
    (∀ n, (σ n).mode = .transmitting → (σ n).sender ≠ none → ∃ m, n ≤ m ∧
      (CompletionServed (σ m) ∨ WaitExpires (σ m) ∨ ResetNext (σ m))) →
    ∀ n, (σ n).mode = .transmitting → ∃ m, n ≤ m ∧ (σ m).mode ≠ .transmitting) ∧
  (∀ σ : Nat → State, Trace σ → (∀ n, NobodyAttends (σ n)) → (σ 0).mode = .transmitting →
    ∀ n, (σ n).mode = .transmitting)

/-- R182, R183, R188, R211: a write of any length whose every wait ends with a completion interrupt, while the clock stands, hands
all its frames to the radio in order, each the frame of its chunk, and responds `(OK, F)`; the watchdog does not fire. -/
def Obligations.CompletedWaitsSendEveryFrame : Prop :=
  ∀ (s : State) (data : List Byte) (ms : List Message) (later : List Move),
    s.mode = .receiving → s.sender = none → s.irqEn = true → s.nowNext = [] →
    (s.radioStatus.txDs = true ∨ s.radioStatus.maxRt = true) → data.length ≤ 255 →
    s.hostIn = encode (.writePayload data) :: ms →
    s.agenda = .foreground ::
      ((List.replicate (frameCount data.length - 1)
        [Move.irqLine true, Move.irqLine false, Move.interrupt, Move.foreground]).flatten ++ later) →
    ∃ t, Runs (1 + 4 * (frameCount data.length - 1)) s t ∧
      framesWritten t.radioTrace =
        framesWritten s.radioTrace ++ (List.range (frameCount data.length)).map (fun k => frameOf (chunk data k)) ∧
      t.hostOut = s.hostOut ++ [[0x00#8, BitVec.ofNat 8 (frameCount data.length)]] ∧ t.mode = .transmitting ∧
      t.cntReset = s.cntReset ∧ t.q = s.q ∧ t.sender = none ∧ t.agenda = later

/-- R183: the chunks of a write are its data in order: every chunk but the last has exactly 30 bytes, the last has the remainder,
between 1 and 30; an empty write has one empty chunk. -/
def Obligations.ChunksPartitionTheData : Prop :=
  ∀ data : List Byte,
    (List.range (frameCount data.length)).flatMap (chunk data) = data ∧
    (∀ k, k + 1 < frameCount data.length → (chunk data k).length = 30) ∧
    (data = [] → frameCount data.length = 1) ∧
    (data ≠ [] →
      frameCount data.length = (data.length + 29) / 30 ∧
      (chunk data (frameCount data.length - 1)).length = data.length - 30 * (frameCount data.length - 1) ∧
      1 ≤ (chunk data (frameCount data.length - 1)).length ∧ (chunk data (frameCount data.length - 1)).length ≤ 30)

/-- R186, R185: RESET_TO_RX runs the recovery path in its order, in Receiving and in Transmitting; in Standby it is refused. -/
def Obligations.ResetToRxResult : Prop :=
  ∀ s : State,
    decodeMessage ⟨0x08#8, []⟩ = .ok .resetToRx ∧
    (s.mode = .standby →
      exec .resetToRx s = .next { s with
        conditions := s.conditions ++ [.notInit], hostOut := s.hostOut ++ [[0x03#8]] }) ∧
    (s.mode ≠ .standby →
      exec .resetToRx s = .next { s with
        mode := .receiving, ce := true, cntReset := satInc s.params s.cntReset,
        radioTrace := s.radioTrace ++ [.clearFlags true true true, .ce false, .setMode .rx, .ce true],
        hostOut := s.hostOut ++ [[0x00#8]] })

/-- R187, R13: the timeout predicate is strict and its subtraction wraps at 65536. -/
def Obligations.TimeoutPredicateWraps : Prop :=
  ∀ (p : Params) (now t : Clock),
    (expired p now t = true ↔ p.txTimeoutMs.toNat < (65536 + now.toNat - t.toNat) % 65536) ∧
    (∀ e : Nat, e < 65536 → now = t + BitVec.ofNat 16 e → (expired p now t = true ↔ p.txTimeoutMs.toNat < e))

/-! ## Inbound Demultiplexer -/

/-- R216: DATA_READY: refused in Standby; in Transmitting 0, with the recovery path when the transmission is stale; otherwise one
status read, and 1 exactly when a frame for a valid pipe waits. -/
def Obligations.DataReadyResult : Prop :=
  ∀ s : State,
    decodeMessage ⟨0x09#8, []⟩ = .ok .dataReady ∧
    (s.mode = .standby →
      exec .dataReady s = .next { s with
        conditions := s.conditions ++ [.notInit], hostOut := s.hostOut ++ [[0x03#8, 0x00#8]] }) ∧
    (s.mode = .transmitting → s.params.txTimeoutMs.toNat < (s.now - s.txStart).toNat →
      exec .dataReady s = .next { clockSampled s with
        mode := .receiving, ce := true, cntReset := satInc s.params s.cntReset,
        conditions := s.conditions ++ [.txTimeout],
        radioTrace := s.radioTrace ++ [.clearFlags true true true, .ce false, .setMode .rx, .ce true],
        hostOut := s.hostOut ++ [[0x00#8, 0x00#8]] }) ∧
    (s.mode = .transmitting → (s.now - s.txStart).toNat ≤ s.params.txTimeoutMs.toNat →
      exec .dataReady s = .next { clockSampled s with hostOut := s.hostOut ++ [[0x00#8, 0x00#8]] }) ∧
    (s.mode = .receiving →
      exec .dataReady s = .next { s with
        radioTrace := s.radioTrace ++ [.readStatus],
        hostOut := s.hostOut ++
          [[0x00#8, if s.radioStatus.rxDr = true ∧ s.radioStatus.rxPNo.toNat ≤ 5 then 0x01#8 else 0x00#8]] })

/-- R211, R212: IRQ_SERVICE with "data sent" or "max retransmits" set, in any mode and whatever data-ready says: the mode becomes
Receiving with `ce` lowered around the configuration write, all three flags are cleared, and no counter moves. -/
def Obligations.IrqServiceCompletesTransmission : Prop :=
  ∀ s : State, s.radioStatus.txDs = true ∨ s.radioStatus.maxRt = true →
    exec .irqService s = .next { s with
      irqPend := false, mode := .receiving, ce := true,
      radioTrace := s.radioTrace ++ [.readStatus, .ce false, .setMode .rx, .ce true, .clearFlags true true true] }

/-- R213, R215, R61: IRQ_SERVICE with data-ready alone and a valid pipe: payload read, receive flush, data-ready cleared; then a valid
frame's bytes are pushed in order, those that find the queue full being lost with one overflow condition each, and an invalid
frame is counted once and queues nothing. -/
def Obligations.IrqServiceReceivesAFrame : Prop :=
  ∀ (s : State) (p : Pipe), s.radioStatus.txDs = false → s.radioStatus.maxRt = false → s.radioStatus.rxDr = true →
    s.radioStatus.rxPNo.toNat = p.num → s.radioFrame.length = 32 →
    ((decodeFrameOf s.radioFrame).valid = true →
      exec .irqService s = .next { s with
        irqPend := false,
        radioTrace := s.radioTrace ++ [.readStatus, .readRxPayload, .flushRx, .clearFlags true false false],
        q := s.q.set p
          (s.q.get p ++ (decodeFrameOf s.radioFrame).payload.take (s.params.queueCap - (s.q.get p).length)),
        conditions := s.conditions ++
          List.replicate
            ((decodeFrameOf s.radioFrame).payload.length - (s.params.queueCap - (s.q.get p).length))
            (.queueOverflow p) }) ∧
    ((decodeFrameOf s.radioFrame).valid = false →
      exec .irqService s = .next { s with
        irqPend := false,
        radioTrace := s.radioTrace ++ [.readStatus, .readRxPayload, .flushRx, .clearFlags true false false],
        cntCksumErr := satInc s.params s.cntCksumErr, conditions := s.conditions ++ [.checksumMismatch p] })

/-- R214: IRQ_SERVICE with data-ready alone and a pipe number of 6 or 7, or with no flag: nothing but the status read. -/
def Obligations.IrqServiceIgnoresTheRest : Prop :=
  ∀ s : State, s.radioStatus.txDs = false → s.radioStatus.maxRt = false →
    (s.radioStatus.rxDr = true → 6 ≤ s.radioStatus.rxPNo.toNat →
      exec .irqService s = .next { s with
        irqPend := false, radioTrace := s.radioTrace ++ [.readStatus],
        conditions := s.conditions ++ [.badPipe s.radioStatus.rxPNo] }) ∧
    (s.radioStatus.rxDr = false →
      exec .irqService s = .next { s with irqPend := false, radioTrace := s.radioTrace ++ [.readStatus] })

/-- R293: what IRQ_SERVICE never touches, for every status and frame the radio returns; the queues only grow at their ends. -/
def Obligations.IrqServiceFrame : Prop :=
  ∀ s : State, ∃ t tr, exec .irqService s = .next t ∧ t.radioTrace = s.radioTrace ++ tr ∧
    (∀ o ∈ tr, o ∈ [.readStatus, .readRxPayload, .flushRx, .clearFlags true false false, .clearFlags true true true,
      .setMode .rx, .ce false, .ce true]) ∧
    (∀ p, s.q.get p <+: t.q.get p) ∧
    t = { s with
      irqPend := false, mode := t.mode, ce := t.ce, q := t.q, cntCksumErr := t.cntCksumErr, radioTrace := t.radioTrace,
      conditions := t.conditions }

/-- R28, R290: the interrupt line's edge latch and its mask: a high-to-low transition while enabled sets `irq_pend`, everything else
leaves it; a service runs only when enabled and pending, and clears it. -/
def Obligations.InterruptLatch : Prop :=
  ∀ s : State,
    (∀ level, nextMove s = .irqLine level →
      step s = .next { moved s with
        irqLine := level,
        irqPend := if s.irqEn = true ∧ s.irqLine = true ∧ level = false then true else s.irqPend }) ∧
    (nextMove s = .interrupt → s.irqEn = false ∨ s.irqPend = false → step s = .next (moved s)) ∧
    (nextMove s = .interrupt → s.irqEn = true → s.irqPend = true →
      ∃ t, step s = .next t ∧ t.irqPend = false ∧ t.irqEn = true)

/-- R61: `QueuePush(p, b)`: appended when there is room, else lost, with no other effect on the machine (the ghost trace aside);
pushing more bytes than there are places leaves the queue at its capacity and discards the excess; only IRQ_SERVICE pushes. -/
def Obligations.QueuePushDropsWhenFull : Prop :=
  (∀ (s : State) (p : Pipe) (b : Byte),
    ((s.q.get p).length < s.params.queueCap → queuePush p b s = { s with q := s.q.set p (s.q.get p ++ [b]) }) ∧
    (s.params.queueCap ≤ (s.q.get p).length →
      queuePush p b s = { s with conditions := s.conditions ++ [.queueOverflow p] })) ∧
  (∀ (s : State) (p : Pipe) (bs : List Byte), (s.q.get p).length ≤ s.params.queueCap →
    (queuePushAll p bs s).q.get p = (s.q.get p ++ bs).take s.params.queueCap) ∧
  (∀ s t : State, step s = .next t → nextMove s ≠ .interrupt → ∀ p, ∃ k, t.q.get p = (s.q.get p).drop k)

/-- R220: PIPE_COUNT: the number of queued bytes, big-endian; it changes nothing. -/
def Obligations.PipeCountResult : Prop :=
  ∀ (s : State) (pipe : Byte),
    decodeMessage ⟨0x0A#8, [pipe]⟩ = .ok (.pipeCount pipe) ∧
    (6 ≤ pipe.toNat →
      exec (.pipeCount pipe) s = .next { s with
        conditions := s.conditions ++ [.invalidConfig (some pipe)], hostOut := s.hostOut ++ [[0x01#8, 0x00#8, 0x00#8]] }) ∧
    (∀ p : Pipe, pipe.toNat = p.num →
      exec (.pipeCount pipe) s = .next { s with
        hostOut := s.hostOut ++
          [[0x00#8, BitVec.ofNat 8 ((s.q.get p).length / 256), BitVec.ofNat 8 ((s.q.get p).length % 256)]] })

/-- R221: PIPE_READ: the oldest byte leaves the queue; an empty queue is answered `EMPTY`; no other queue is read or written. -/
def Obligations.PipeReadResult : Prop :=
  ∀ (s : State) (pipe : Byte),
    decodeMessage ⟨0x0B#8, [pipe]⟩ = .ok (.pipeRead pipe) ∧
    (6 ≤ pipe.toNat →
      exec (.pipeRead pipe) s = .next { s with
        conditions := s.conditions ++ [.invalidConfig (some pipe)], hostOut := s.hostOut ++ [[0x01#8, 0x00#8]] }) ∧
    (∀ p : Pipe, pipe.toNat = p.num →
      (s.q.get p = [] →
        exec (.pipeRead pipe) s = .next { s with
          conditions := s.conditions ++ [.empty p], hostOut := s.hostOut ++ [[0x04#8, 0x00#8]] }) ∧
      (∀ b bs, s.q.get p = b :: bs →
        exec (.pipeRead pipe) s = .next { s with q := s.q.set p bs, hostOut := s.hostOut ++ [[0x00#8, b]] }))

/-- R222, R223: the counters are read in 16 bits, big-endian, in every mode, and change nothing. For a counter wider than 16 bits the
two bytes are its low 16 bits (log 13). -/
def Obligations.CounterReadResults : Prop :=
  ∀ s : State,
    decodeMessage ⟨0x0C#8, []⟩ = .ok .getCksumErr ∧ decodeMessage ⟨0x0D#8, []⟩ = .ok .getResetCnt ∧
    exec .getCksumErr s = .next { s with
      hostOut := s.hostOut ++ [[0x00#8, BitVec.ofNat 8 (s.cntCksumErr / 256), BitVec.ofNat 8 (s.cntCksumErr % 256)]] } ∧
    exec .getResetCnt s = .next { s with
      hostOut := s.hostOut ++ [[0x00#8, BitVec.ofNat 8 (s.cntReset / 256), BitVec.ofNat 8 (s.cntReset % 256)]] }

/-- R225, R32: pipe isolation: a service changes at most the queue of the pipe the status names; what PIPE_READ on a pipe answers
depends on that pipe's queue alone, and it leaves the other queues as they are. -/
def Obligations.PipesAreIsolated : Prop :=
  (∀ s t : State, exec .irqService s = .next t →
    ∀ p : Pipe, s.radioStatus.rxPNo.toNat ≠ p.num → t.q.get p = s.q.get p) ∧
  (∀ (s1 s2 t1 t2 : State) (pipe : Byte) (p : Pipe), pipe.toNat = p.num → s1.q.get p = s2.q.get p →
    exec (.pipeRead pipe) s1 = .next t1 → exec (.pipeRead pipe) s2 = .next t2 →
    (∃ r, t1.hostOut = s1.hostOut ++ [r] ∧ t2.hostOut = s2.hostOut ++ [r]) ∧ t1.q.get p = t2.q.get p ∧
      ∀ p' : Pipe, p' ≠ p → t1.q.get p' = s1.q.get p')

/-- R225, end to end: the frame that node A's WRITE_PAYLOAD hands to its radio, given to node B by its radio on a pipe with room, is
appended by B's IRQ_SERVICE to that pipe's queue as exactly A's bytes, and changes no counter. The radio link is the premise. -/
def Obligations.EndToEndDelivery : Prop :=
  ∀ (a ta b : State) (data f : List Byte) (tr : List RadioOp) (p : Pipe),
    a.mode = .receiving → data.length ≤ 30 → exec (.writePayload data) a = .next ta →
    ta.radioTrace = a.radioTrace ++ tr → f ∈ framesWritten tr →
    b.radioFrame = f → b.radioStatus = ⟨true, false, false, BitVec.ofNat 3 p.num⟩ →
    (b.q.get p).length + data.length ≤ b.params.queueCap →
    ∃ tb, exec .irqService b = .next tb ∧ tb.q = b.q.set p (b.q.get p ++ data) ∧
      tb.cntCksumErr = b.cntCksumErr ∧ tb.cntReset = b.cntReset

/-! ## Tree-Address Router -/

/-- R244, R247: the five cases of the route decision, for every parameter function `ROUTE_DOWN1`; depth and width are `A[7:4]` and
`A[3:0]` (R95). -/
def Obligations.RouteDecisionCases : Prop :=
  ∀ (p : Params) (d b : TreeAddr),
    (d = b → routeDecision p d b = .here) ∧
    (d ≠ b → (d.extractLsb' 4 4).toNat = (b.extractLsb' 4 4).toNat → routeDecision p d b = .up) ∧
    ((d.extractLsb' 4 4).toNat + 1 = (b.extractLsb' 4 4).toNat →
      (p.down1 (d.extractLsb' 0 4) (b.extractLsb' 4 4) = none → routeDecision p d b = .up) ∧
      ∀ c, p.down1 (d.extractLsb' 0 4) (b.extractLsb' 4 4) = some c → routeDecision p d b = .down c) ∧
    ((d.extractLsb' 4 4).toNat + 2 = (b.extractLsb' 4 4).toNat →
      (d.extractLsb' 0 4 = 0#4 → routeDecision p d b = .up) ∧
      (d.extractLsb' 0 4 ≠ 0#4 →
        ∃ c, routeDecision p d b = .down c ∧ c.num = ((d.extractLsb' 0 4).toNat - 1) / 5 + 1 ∧ c.num ≤ 3)) ∧
    (d ≠ b → (d.extractLsb' 4 4).toNat ≠ (b.extractLsb' 4 4).toNat → (d.extractLsb' 4 4).toNat + 1 ≠ (b.extractLsb' 4 4).toNat →
      (d.extractLsb' 4 4).toNat + 2 ≠ (b.extractLsb' 4 4).toNat → routeDecision p d b = .up)

/-- R260: LOCAL exactly for this node; DOWN only to smaller depths; every other destination at this depth or above it, or more than two
levels below, goes UP. -/
def Obligations.RouteDecisionLaws : Prop :=
  ∀ (p : Params) (d b : TreeAddr),
    (routeDecision p d b = .here ↔ d = b) ∧
    (∀ c, routeDecision p d b = .down c →
      (d.extractLsb' 4 4).toNat < (b.extractLsb' 4 4).toNat ∧ (b.extractLsb' 4 4).toNat ≤ (d.extractLsb' 4 4).toNat + 2) ∧
    (d ≠ b → (b.extractLsb' 4 4).toNat ≤ (d.extractLsb' 4 4).toNat → routeDecision p d b = .up) ∧
    ((d.extractLsb' 4 4).toNat + 2 < (b.extractLsb' 4 4).toNat → routeDecision p d b = .up)

/-- R240, R242, R243: ROUTE_STEP without a whole packet: a bad pipe, a stopped pipe, fewer than nine bytes, a latched header whose data
is not there, and a header latched now whose data is not there; each answers and changes only what is named. -/
def Obligations.RouteStepWithoutAPacket : Prop :=
  ∀ (s : State) (pipe : Byte), s.mode ≠ .standby →
    decodeMessage ⟨0x0F#8, [pipe]⟩ = .ok (.routeStep pipe) ∧
    (6 ≤ pipe.toNat →
      exec (.routeStep pipe) s = .next { s with
        conditions := s.conditions ++ [.invalidConfig (some pipe)], hostOut := s.hostOut ++ [[0x01#8, 0#8, 0#8]] }) ∧
    ∀ p : Pipe, pipe.toNat = p.num →
      (s.rtErr.get p = true →
        exec (.routeStep pipe) s = .next { s with
          conditions := s.conditions ++ [.routerErr p], hostOut := s.hostOut ++ [[0x06#8, 0#8, 0#8]] }) ∧
      (s.rtErr.get p = false → s.rtHdrValid.get p = false → (s.q.get p).length < 9 →
        exec (.routeStep pipe) s = .next { s with hostOut := s.hostOut ++ [[0x05#8, 0#8, 0#8]] }) ∧
      (s.rtErr.get p = false → s.rtHdrValid.get p = true → (s.q.get p).length < (s.rtHdr.get p).h8.toNat →
        exec (.routeStep pipe) s = .next { s with hostOut := s.hostOut ++ [[0x05#8, 0#8, 0#8]] }) ∧
      (∀ (h : Header) (rest : List Byte), s.rtErr.get p = false → s.rtHdrValid.get p = false →
        s.q.get p = [h.h0, h.h1, h.h2, h.h3, h.h4, h.h5, h.h6, h.h7, h.h8] ++ rest → h.h8.toNat ≤ 21 →
        rest.length < h.h8.toNat →
        exec (.routeStep pipe) s = .next { s with
          q := s.q.set p rest, rtHdr := s.rtHdr.set p h, rtHdrValid := s.rtHdrValid.set p true,
          hostOut := s.hostOut ++ [[0x05#8, 0#8, 0#8]] })

/-- R246: a declared count above 21 sets the pipe's sticky error, the header stays latched, nothing further is consumed; only a
hardware reset clears it, and until then every ROUTE_STEP of the pipe answers `ROUTER_ERR`. -/
def Obligations.RouterErrorIsSticky : Prop :=
  (∀ (s : State) (pipe : Byte) (p : Pipe) (h : Header) (rest : List Byte), s.mode ≠ .standby → pipe.toNat = p.num →
    s.rtErr.get p = false → s.rtHdrValid.get p = false →
    s.q.get p = [h.h0, h.h1, h.h2, h.h3, h.h4, h.h5, h.h6, h.h7, h.h8] ++ rest → 21 < h.h8.toNat →
    exec (.routeStep pipe) s = .next { s with
      q := s.q.set p rest, rtHdr := s.rtHdr.set p h, rtHdrValid := s.rtHdrValid.set p true,
      rtErr := s.rtErr.set p true, conditions := s.conditions ++ [.routerErr p],
      hostOut := s.hostOut ++ [[0x06#8, 0#8, 0#8]] }) ∧
  (∀ (s t : State) (p : Pipe), step s = .next t → ¬ ResetNext s → s.rtErr.get p = true →
    t.rtErr.get p = true ∧ t.rtHdrValid.get p = s.rtHdrValid.get p ∧ t.rtHdr.get p = s.rtHdr.get p) ∧
  (∀ (s : State) (pipe : Byte) (p : Pipe), s.mode ≠ .standby → pipe.toNat = p.num → s.rtErr.get p = true →
    exec (.routeStep pipe) s = .next { s with
      conditions := s.conditions ++ [.routerErr p], hostOut := s.hostOut ++ [[0x06#8, 0#8, 0#8]] })

/-- R250, R256, R240: a whole packet for this node: dispatched through the first table entry with its command id when the declared
count is the expected one, else dropped with the action that says why.
The fields are the header's bytes, most significant first (R94). An index above 255 has no stated response byte (log 12). -/
def Obligations.LocalPacketIsDispatched : Prop :=
  ∀ (s : State) (pipe : Byte) (p : Pipe) (h : Header) (data rest : List Byte), s.mode ≠ .standby → pipe.toNat = p.num →
    PacketReady p h data rest s → h.h0 ++ h.h1 ++ h.h2 = s.params.boardAddress →
    ((∀ e ∈ s.params.cmdTable, e.id ≠ (h.h6 ++ h.h7)) →
      exec (.routeStep pipe) s = .next { packetTaken p h rest s with
        conditions := s.conditions ++ [.noHandler (h.h6 ++ h.h7)], hostOut := s.hostOut ++ [[0x00#8, 4#8, 0#8]] }) ∧
    (∀ (i : Nat) (e : CmdEntry), s.params.cmdTable[i]? = some e → e.id = (h.h6 ++ h.h7) →
      (∀ j e', j < i → s.params.cmdTable[j]? = some e' → e'.id ≠ (h.h6 ++ h.h7)) →
      (e.expected ≠ h.h8 →
        exec (.routeStep pipe) s = .next { packetTaken p h rest s with
          conditions := s.conditions ++ [.badCount (h.h6 ++ h.h7) h.h8], hostOut := s.hostOut ++ [[0x00#8, 5#8, 0#8]] }) ∧
      (e.expected = h.h8 →
        ∃ b, (i < 256 → b = BitVec.ofNat 8 i) ∧
          exec (.routeStep pipe) s = .next { packetTaken p h rest s with
            dispatchOut := s.dispatchOut ++ [⟨i, h.h3 ++ h.h4 ++ h.h5, (h.h6 ++ h.h7), h.h8, data⟩],
            hostOut := s.hostOut ++ [[0x00#8, 1#8, b]] }))

/-- R254, R240: in Receiving, a whole packet routed UP at a node with a parent, or DOWN to a child, is forwarded byte for byte in one
frame to `PARENT_ADDR` or `CHILD_ADDR[c]`; the transmit address stays there (R341). -/
def Obligations.PacketIsForwarded : Prop :=
  ∀ (s : State) (pipe : Byte) (p : Pipe) (h : Header) (data rest f : List Byte) (a : RadioAddr) (reply : SendReply)
      (act : List Byte),
    s.mode = .receiving → pipe.toNat = p.num → PacketReady p h data rest s →
    encodeFrameOf ([h.h0, h.h1, h.h2, h.h3, h.h4, h.h5, h.h6, h.h7, h.h8] ++ data) = some f →
    ForwardedTo s.params (h.h0 ++ h.h1 ++ h.h2) a reply act →
    ∃ t, exec (.routeStep pipe) s = .next t ∧ txAddress t = a ∧
      t = { afterSamples 2 (packetTaken p h rest s) with
        cfgTxHi := a.extractLsb' 8 32, cfgTxLo := a.extractLsb' 0 8,
        mode := .transmitting, txStart := sample 1 s, ce := true, sender := none,
        radioTrace := s.radioTrace ++
          [.writeReg .txAddr
            [a.extractLsb' 0 8, a.extractLsb' 8 8, a.extractLsb' 16 8, a.extractLsb' 24 8, a.extractLsb' 32 8],
           .ce false, .setMode .tx, .flushTx, .writeTxPayload f, .ce true],
        hostOut := s.hostOut ++ [0x00#8 :: act] }

/-- R254, R258(g), R181: in Transmitting, a packet routed UP at a node with a parent, or DOWN to a child, writes the transmit address at
once and then waits as a write does: it yields, or past the timeout the packet is lost with status `TIMEOUT` and the bytes of its
action. -/
def Obligations.ForwardInTransmittingWaits : Prop :=
  ∀ (s : State) (pipe : Byte) (p : Pipe) (h : Header) (data rest : List Byte) (a : RadioAddr) (reply : SendReply)
      (act : List Byte),
    s.mode = .transmitting → pipe.toNat = p.num → PacketReady p h data rest s →
    ForwardedTo s.params (h.h0 ++ h.h1 ++ h.h2) a reply act →
    ((sample 1 s - sample 0 s).toNat ≤ s.params.txTimeoutMs.toNat →
      ∃ t, exec (.routeStep pipe) s = .next t ∧ txAddress t = a ∧
        t = { afterSamples 2 (packetTaken p h rest s) with
          cfgTxHi := a.extractLsb' 8 32, cfgTxLo := a.extractLsb' 0 8,
          radioTrace := s.radioTrace ++
            [.writeReg .txAddr
              [a.extractLsb' 0 8, a.extractLsb' 8 8, a.extractLsb' 16 8, a.extractLsb' 24 8, a.extractLsb' 32 8]],
          sender := some
            { data := [h.h0, h.h1, h.h2, h.h3, h.h4, h.h5, h.h6, h.h7, h.h8] ++ data,
              len := BitVec.ofNat 8 (9 + data.length), k := 0, sent := 0#8, tWait := sample 0 s, reply := reply } }) ∧
    (s.params.txTimeoutMs.toNat < (sample 1 s - sample 0 s).toNat →
      ∃ t, exec (.routeStep pipe) s = .next t ∧ txAddress t = a ∧
        t = { afterSamples 2 (packetTaken p h rest s) with
          cfgTxHi := a.extractLsb' 8 32, cfgTxLo := a.extractLsb' 0 8,
          mode := .receiving, ce := true, cntReset := satInc s.params s.cntReset,
          conditions := s.conditions ++ [.txTimeout],
          radioTrace := s.radioTrace ++
            [.writeReg .txAddr
              [a.extractLsb' 0 8, a.extractLsb' 8 8, a.extractLsb' 16 8, a.extractLsb' 24 8, a.extractLsb' 32 8],
             .clearFlags true true true, .ce false, .setMode .rx, .ce true],
          sender := none, hostOut := s.hostOut ++ [0x02#8 :: act] })

/-- R240, R258(j): at a node without parent a packet routed UP is consumed and dropped. -/
def Obligations.PacketWithoutRouteIsDropped : Prop :=
  ∀ (s : State) (pipe : Byte) (p : Pipe) (h : Header) (data rest : List Byte), s.mode ≠ .standby → pipe.toNat = p.num →
    PacketReady p h data rest s → routeDecision s.params (h.h0 ++ h.h1 ++ h.h2) s.params.boardAddress = .up → s.params.hasParent = false →
    exec (.routeStep pipe) s = .next { packetTaken p h rest s with
      conditions := s.conditions ++ [.noRoute (h.h0 ++ h.h1 ++ h.h2)], hostOut := s.hostOut ++ [[0x00#8, 6#8, 0#8]] }

/-- R260: a ROUTE_STEP consumes bytes from its own pipe only, in order, at most 30 of them (the exact bytes stand in the statements of
its cases), and emits at most one dispatch event; the premise is the latches' invariant (MachineInvariant). -/
def Obligations.RouteStepConsumesAtMostThirtyBytes : Prop :=
  ∀ (s t : State) (pipe : Byte) (p : Pipe), LatchesConsistent s → pipe.toNat = p.num → exec (.routeStep pipe) s = .next t →
    (∃ k, k ≤ 30 ∧ t.q.get p = (s.q.get p).drop k) ∧
    (∀ p' : Pipe, p' ≠ p → t.q.get p' = s.q.get p' ∧ t.rtHdrValid.get p' = s.rtHdrValid.get p' ∧
      t.rtHdr.get p' = s.rtHdr.get p' ∧ t.rtErr.get p' = s.rtErr.get p') ∧
    (t.dispatchOut = s.dispatchOut ∨ ∃ e, t.dispatchOut = s.dispatchOut ++ [e])

/-! ## The whole machine -/

/-- R45: the state after hardware reset, for every build and every value of what R45 leaves unspecified; State.reset is one of
them. R321, R46: no rule reads an unspecified element before writing it: two reset states that differ only in those values give the same
responses, dispatch events and transactions on every run, with the same modes, counters and queues. -/
def Obligations.ResetState : Prop :=
  (∀ s : State, (∃ p u, s = State.resetWith p u) ∨ s = State.reset →
    s.mode = .standby ∧ s.ce = false ∧ s.irqEn = false ∧ s.irqPend = false ∧ (∀ p, s.q.get p = []) ∧
    s.cntCksumErr = 0 ∧ s.cntReset = 0 ∧ (∀ p, s.rtHdrValid.get p = false) ∧ (∀ p, s.rtErr.get p = false) ∧
    s.sender = none ∧ s.hostIn = [] ∧ s.hostOut = []) ∧
  (∀ (p : Params) (u1 u2 : Unspecified) (agenda : List Move) (n : Nat) (t1 : State),
    Runs n { State.resetWith p u1 with agenda := agenda } t1 →
    ∃ t2, Runs n { State.resetWith p u2 with agenda := agenda } t2 ∧
      t1.hostOut = t2.hostOut ∧ t1.dispatchOut = t2.dispatchOut ∧ t1.radioTrace = t2.radioTrace ∧ t1.ce = t2.ce ∧
      t1.mode = t2.mode ∧ t1.q = t2.q ∧ t1.cntCksumErr = t2.cntCksumErr ∧ t1.cntReset = t2.cntReset)

/-- R320, R321: the reset input in any state: the values of R321's table, a command in progress abandoned without a response, no
transaction; what the table leaves unspecified takes any values (`u`, log 3). -/
def Obligations.HardwareResetResult : Prop :=
  ∀ (s : State) (u : Unspecified), nextMove s = .reset u →
    ∃ t, step s = .next t ∧
      t.mode = .standby ∧ t.ce = false ∧ t.irqEn = false ∧ t.irqPend = false ∧ (∀ p, t.q.get p = []) ∧
      t.cntCksumErr = 0 ∧ t.cntReset = 0 ∧ (∀ p, t.rtHdrValid.get p = false) ∧ (∀ p, t.rtErr.get p = false) ∧
      t.txStart = u.txStart ∧ t.cfgChannel = u.cfgChannel ∧ t.cfgPipeEn = u.cfgPipeEn ∧ t.cfgRxHi0 = u.cfgRxHi0 ∧
      t.cfgRxHi1 = u.cfgRxHi1 ∧ t.cfgRxLo = u.cfgRxLo ∧ t.cfgTxHi = u.cfgTxHi ∧ t.cfgTxLo = u.cfgTxLo ∧
      t.rtHdr = u.rtHdr ∧ t.sender = none ∧ t.hostOut = s.hostOut ∧ t.radioTrace = s.radioTrace ∧
      t.dispatchOut = s.dispatchOut ∧ t.params = s.params

/-- The invariant of Safety.lean holds after reset, for every build in R11's ranges; its clauses are those of R11, R21, R28, R31,
R33, R34, R60, R301. -/
def Obligations.InvariantHoldsAtReset : Prop :=
  ∀ (p : Params) (u : Unspecified) (agenda : List Move), p.InRange → MachineInvariant { State.resetWith p u with agenda := agenda }

/-- Every step of every agent keeps the invariant: queues within their capacity (R60), counters within their width (R31), Standby
quiet (R301), the enable line and interrupts on outside it, a legal channel (R21), no pending interrupt while masked (R28),
consistent router latches (R34, R246), a consistent sender (R33). -/
def Obligations.EveryStepKeepsTheInvariant : Prop :=
  ∀ s t : State, MachineInvariant s → step s = .next t → MachineInvariant t

/-- R23: every transition of `mode`, and the only ones: reset; INIT from Standby; a frame started; a completion served; a foreground
exit from Transmitting (INIT or the recovery path). Standby is entered by hardware reset only. -/
def Obligations.ModeTransitions : Prop :=
  ∀ s t : State, MachineInvariant s → step s = .next t → t.mode ≠ s.mode →
    (ResetNext s ∧ t.mode = .standby) ∨
    (ForegroundNext s ∧ s.mode = .standby ∧ t.mode = .receiving ∧ ∃ ms, s.hostIn = ⟨0x01#8, []⟩ :: ms) ∨
    (ForegroundNext s ∧ s.mode = .receiving ∧ t.mode = .transmitting ∧
      ∃ f ∈ framesWritten (t.radioTrace.drop s.radioTrace.length), f.length = 32) ∨
    (nextMove s = .interrupt ∧ s.irqEn = true ∧ s.irqPend = true ∧
      (s.radioStatus.txDs = true ∨ s.radioStatus.maxRt = true) ∧ t.mode = .receiving) ∨
    (ForegroundNext s ∧ s.mode = .transmitting ∧ t.mode = .receiving ∧
      ((∃ ms, s.hostIn = ⟨0x01#8, []⟩ :: ms) ∨ t.cntReset = satInc s.params s.cntReset))

/-- R26, R20, R83: each configuration register is written by the operations R20 names and by no other; a step that is not the
foreground's, or that goes on with a waiting command, writes none (hardware reset aside); no step changes a build parameter. -/
def Obligations.ConfigurationWriters : Prop :=
  (∀ (i : Instr) (s t : State), exec i s = .next t →
    (i ≠ .init → (∀ ch, i ≠ .setChannel ch) → t.cfgChannel = s.cfgChannel) ∧
    (i ≠ .init → (∀ m, i ≠ .enablePipes m) → (∀ m, i ≠ .disablePipes m) → t.cfgPipeEn = s.cfgPipeEn) ∧
    ((∀ a h l, i ≠ .setRxAddr a h l) →
      t.cfgRxHi0 = s.cfgRxHi0 ∧ t.cfgRxHi1 = s.cfgRxHi1 ∧ t.cfgRxLo = s.cfgRxLo) ∧
    ((∀ h l, i ≠ .setTxAddr h l) → (∀ a, i ≠ .routeStep a) → t.cfgTxHi = s.cfgTxHi ∧ t.cfgTxLo = s.cfgTxLo)) ∧
  (∀ s t : State, step s = .next t →
    t.params = s.params ∧
    (¬ ResetNext s → ¬ ForegroundNext s ∨ s.sender ≠ none →
      t.cfgChannel = s.cfgChannel ∧ t.cfgPipeEn = s.cfgPipeEn ∧ t.cfgRxHi0 = s.cfgRxHi0 ∧ t.cfgRxHi1 = s.cfgRxHi1 ∧
      t.cfgRxLo = s.cfgRxLo ∧ t.cfgTxHi = s.cfgTxHi ∧ t.cfgTxLo = s.cfgTxLo))

/-- R31, R299, R226(f): the counters never decrease and grow by at most one a step; `cnt_cksum_err` moves only in a service,
`cnt_reset` only in a foreground step (hardware reset aside). R13, R283, R284, R343: each invalid frame, each firing of the watchdog and
each RESET_TO_RX makes its counter grow by exactly one below `2^CNT_W − 1`, where it stays; a firing is a `TxTimeout`, an invalid frame
a `ChecksumMismatch` among the step's conditions. -/
def Obligations.CountersAreMonotone : Prop :=
  (∀ s t : State, step s = .next t → ¬ ResetNext s →
    s.cntCksumErr ≤ t.cntCksumErr ∧ t.cntCksumErr ≤ s.cntCksumErr + 1 ∧
    s.cntReset ≤ t.cntReset ∧ t.cntReset ≤ s.cntReset + 1 ∧
    (t.cntCksumErr ≠ s.cntCksumErr → nextMove s = .interrupt ∧ s.irqEn = true ∧ s.irqPend = true) ∧
    (t.cntReset ≠ s.cntReset → ForegroundNext s) ∧
    ∃ cs, t.conditions = s.conditions ++ cs ∧
      (.txTimeout ∈ cs →
        t.cntReset = if s.cntReset < 2 ^ s.params.cntW - 1 then s.cntReset + 1 else s.cntReset) ∧
      ((∃ p, .checksumMismatch p ∈ cs) →
        t.cntCksumErr = if s.cntCksumErr < 2 ^ s.params.cntW - 1 then s.cntCksumErr + 1 else s.cntCksumErr)) ∧
  (∀ (p : Params) (c : Nat),
    (c < 2 ^ p.cntW - 1 → satInc p c = c + 1) ∧ (c = 2 ^ p.cntW - 1 → satInc p c = c)) ∧
  (∀ s : State, s.mode ≠ .standby →
    ∃ t, exec .resetToRx s = .next t ∧ t.cntCksumErr = s.cntCksumErr ∧
      t.cntReset = if s.cntReset < 2 ^ s.params.cntW - 1 then s.cntReset + 1 else s.cntReset) ∧
  (∀ (s : State) (snd : Sender), ForegroundNext s → s.sender = some snd → s.mode = .transmitting →
    s.params.txTimeoutMs.toNat < (s.now - snd.tWait).toNat →
    ∃ t, step s = .next t ∧ t.cntCksumErr = s.cntCksumErr ∧
      t.cntReset = if s.cntReset < 2 ^ s.params.cntW - 1 then s.cntReset + 1 else s.cntReset) ∧
  (∀ (s : State) (p : Pipe), s.radioStatus.txDs = false → s.radioStatus.maxRt = false → s.radioStatus.rxDr = true →
    s.radioStatus.rxPNo.toNat = p.num → s.radioFrame.length = 32 → (decodeFrameOf s.radioFrame).valid = false →
    ∃ t, exec .irqService s = .next t ∧ t.cntReset = s.cntReset ∧
      t.cntCksumErr = if s.cntCksumErr < 2 ^ s.params.cntW - 1 then s.cntCksumErr + 1 else s.cntCksumErr)

/-! ## Hazards, with the radio's contract (60_exceptions R305 to R308) as a premise -/

/-- R331: a service that reads a frame empties the radio's receive FIFO: the other frames waiting there are lost, uncounted: the
counters move as for the one frame read. The radio is the contract of R305 and R307 (log 20). -/
def Obligations.ReceiveFlushDiscardsWaitingFrames : Prop :=
  ∀ (s : State) (r : Radio) (p : Pipe) (f : List Byte) (others : List (Pipe × List Byte)),
    r.rxFifo = (p, f) :: others → r.rxDr = true → r.txDs = false → r.maxRt = false → f.length = 32 →
    ∃ t tr, exec .irqService (r.drive s) = .next t ∧ t.radioTrace = s.radioTrace ++ tr ∧
      (r.reactAll s.params tr).rxFifo = [] ∧ (r.reactAll s.params tr).rxDr = false ∧
      (∀ p', p' ≠ p → t.q.get p' = s.q.get p') ∧
      t.q.get p = s.q.get p ++ (if (decodeFrameOf f).valid = true
        then (decodeFrameOf f).payload.take (s.params.queueCap - (s.q.get p).length) else []) ∧
      t.cntCksumErr =
        (if (decodeFrameOf f).valid = true then s.cntCksumErr else satInc s.params s.cntCksumErr) ∧
      t.cntReset = s.cntReset

/-- R332: the completion branch and the recovery path clear data-ready and leave the frames in the radio's receive FIFO unread and
unannounced (the contract of R305 and R307, log 20). -/
def Obligations.FlagsClearedWithoutARead : Prop :=
  ∀ (s : State) (r : Radio),
    (r.txDs = true ∨ r.maxRt = true →
      ∃ t tr, exec .irqService (r.drive s) = .next t ∧ t.radioTrace = s.radioTrace ++ tr ∧
        (r.reactAll s.params tr).rxDr = false ∧ (r.reactAll s.params tr).rxFifo = r.rxFifo ∧ t.q = s.q) ∧
    (s.mode ≠ .standby →
      ∃ t tr, exec .resetToRx s = .next t ∧ t.radioTrace = s.radioTrace ++ tr ∧
        (r.reactAll s.params tr).rxDr = false ∧ (r.reactAll s.params tr).rxFifo = r.rxFifo ∧ t.q = s.q)

/-- R333: after an ignored pipe number the radio is as it was, so the line it holds low stays low and raises no further interrupt (the
contract of R307, log 20; the radio's flag is given with the pipe number that the status record shows). -/
def Obligations.IgnoredPipeLeavesTheLineLow : Prop :=
  ∀ (s : State) (r : Radio), s.radioStatus.rxDr = true → s.radioStatus.txDs = false → s.radioStatus.maxRt = false →
    6 ≤ s.radioStatus.rxPNo.toNat → s.irqLine = false →
    ∃ t tr, exec .irqService s = .next t ∧ t.radioTrace = s.radioTrace ++ tr ∧ r.reactAll s.params tr = r ∧
      t.irqPend = false ∧ (r.line = false → ((r.reactAll s.params tr).drive t).irqPend = false)
end

