-- ==== Sys2Proof/Laws/Codec.lean ====
section
/-! SUPPORT. Lengths of frames, payloads and chunks. -/

namespace Sys2Proof.Machine

theorem frameDataLegal_iff (data : List Byte) : frameDataLegal data = true ↔ data.length ≤ 30 := by
  simp [frameDataLegal]

/-- R161: a frame has 32 bytes. -/
theorem frameOf_length (data : List Byte) (h : data.length ≤ 30) : (frameOf data).length = 32 := by
  simp [frameOf, Config.maxData]; omega

theorem encodeFrameOf_of_le (data : List Byte) (h : data.length ≤ 30) : encodeFrameOf data = some (frameOf data) := by
  simp [encodeFrameOf, frameDataLegal, h]

theorem encodeFrameOf_of_gt (data : List Byte) (h : 30 < data.length) : encodeFrameOf data = none := by
  simp [encodeFrameOf, frameDataLegal, Config.maxData]; omega

/-- R162: a length byte above 30 makes the frame invalid, without a payload. -/
theorem decodeFrameOf_of_gt (f : List Byte) (h : 30 < (f.getD 0 0#8).toNat) :
    decodeFrameOf f = ⟨f.getD 0 0#8, [], false⟩ := by
  unfold decodeFrameOf
  exact if_pos h

/-- R162: otherwise the payload is the N bytes after the length byte. -/
theorem decodeFrameOf_of_le (f : List Byte) (h : (f.getD 0 0#8).toNat ≤ 30) :
    decodeFrameOf f =
      ⟨f.getD 0 0#8, (f.drop 1).take (f.getD 0 0#8).toNat,
        decide (f.getD ((f.getD 0 0#8).toNat + 1) 0#8 = checksumOf ((f.drop 1).take (f.getD 0 0#8).toNat))⟩ := by
  unfold decodeFrameOf
  exact if_neg (Nat.not_lt.2 h)

/-- R162: no frame gives more than 30 payload bytes. -/
theorem decodeFrameOf_payload_length (f : List Byte) : (decodeFrameOf f).payload.length ≤ 30 := by
  by_cases h : (f.getD 0 0#8).toNat ≤ 30
  · rw [decodeFrameOf_of_le f h]
    exact Nat.le_trans (List.length_take_le _ _) h
  · rw [decodeFrameOf_of_gt f (Nat.not_le.1 h)]
    exact Nat.zero_le _

/-- R183: a chunk has at most 30 bytes. -/
theorem chunk_length_le (data : List Byte) (k : Nat) : (chunk data k).length ≤ 30 := by
  simp [chunk, Config.maxData]

/-- R183: a write has at least one frame. -/
theorem frameCount_pos (n : Nat) : 0 < frameCount n := by
  unfold frameCount
  split
  · exact Nat.one_pos
  · exact Nat.div_pos (by simp only [Config.maxData]; omega) (by simp [Config.maxData])

/-- R180, R183: at most 255 bytes make at most nine frames. -/
theorem frameCount_le_nine (n : Nat) (h : n ≤ 255) : frameCount n ≤ 9 := by
  unfold frameCount
  split
  · omega
  · simp only [Config.maxData]; omega

@[simp] theorem header_bytes_length (h : Header) : h.bytes.length = 9 := rfl

/-- R93: a header is what its nine bytes make. -/
@[simp] theorem header_ofBytes_bytes (h : Header) : Header.ofBytes h.bytes = h := rfl

/-- R242: the first nine bytes of a packet are its header. -/
@[simp] theorem take_header_bytes (h : Header) (r : List Byte) : (h.bytes ++ r).take 9 = h.bytes := rfl

/-- R243: the bytes after them are its data. -/
@[simp] theorem drop_header_bytes (h : Header) (r : List Byte) : (h.bytes ++ r).drop 9 = r := rfl

/-- R242: nine bytes latched read back as they came. -/
theorem header_bytes_ofBytes (b : List Byte) (h : b.length = 9) : (Header.ofBytes b).bytes = b := by
  match b, h with
  | [_, _, _, _, _, _, _, _, _], _ => rfl

end Sys2Proof.Machine
end

