-- ==== Sys2Proof/Laws/PerPipe.lean ====
section
/-! SUPPORT. Indexed registers: reading after writing, and pipe numbers. -/

namespace Sys2Proof

@[simp] theorem Pipe.ofNat?_num (p : Pipe) : Pipe.ofNat? p.num = some p := by cases p <;> rfl

theorem Pipe.num_lt (p : Pipe) : p.num < 6 := by cases p <;> decide

/-- A number names a pipe exactly when it is the pipe's number. -/
theorem Pipe.ofNat?_eq_some (n : Nat) (p : Pipe) : Pipe.ofNat? n = some p ↔ n = p.num := by
  constructor
  · intro h
    match n, h with
    | 0, h => cases h; rfl
    | 1, h => cases h; rfl
    | 2, h => cases h; rfl
    | 3, h => cases h; rfl
    | 4, h => cases h; rfl
    | 5, h => cases h; rfl
  · rintro rfl
    exact Pipe.ofNat?_num p

/-- R98: the legal pipe indices are those below 6. -/
theorem Pipe.ofNat?_eq_none (n : Nat) : Pipe.ofNat? n = none ↔ 6 ≤ n := by
  match n with
  | 0 | 1 | 2 | 3 | 4 | 5 => simp [Pipe.ofNat?]
  | n + 6 => simp [Pipe.ofNat?]

theorem Pipe.ofByte?_eq_some (b : Byte) (p : Pipe) : Pipe.ofByte? b = some p ↔ b.toNat = p.num :=
  Pipe.ofNat?_eq_some _ _

theorem Pipe.ofByte?_eq_none (b : Byte) : Pipe.ofByte? b = none ↔ 6 ≤ b.toNat := Pipe.ofNat?_eq_none _

@[simp] theorem Pipe.ofByte?_num (p : Pipe) : Pipe.ofByte? (BitVec.ofNat 8 p.num) = some p := by cases p <;> rfl

@[simp] theorem Pipe.ofField?_num (p : Pipe) : Pipe.ofField? (BitVec.ofNat 3 p.num) = some p := by cases p <;> rfl

namespace Machine

variable {α : Type}

@[simp] theorem PerPipe.get_all (v : α) (p : Pipe) : (PerPipe.all v).get p = v := by cases p <;> rfl

@[simp] theorem PerPipe.get_set_same (x : PerPipe α) (p : Pipe) (v : α) : (x.set p v).get p = v := by cases p <;> rfl

theorem PerPipe.get_set_ne (x : PerPipe α) (p p' : Pipe) (v : α) (h : p' ≠ p) : (x.set p v).get p' = x.get p' := by
  cases p <;> cases p' <;> first | rfl | exact absurd rfl h

theorem PerPipe.get_set (x : PerPipe α) (p p' : Pipe) (v : α) :
    (x.set p v).get p' = if p' = p then v else x.get p' := by
  split
  · next h => subst h; simp
  · next h => exact PerPipe.get_set_ne x p p' v h

@[simp] theorem PerPipe.set_get (x : PerPipe α) (p : Pipe) : x.set p (x.get p) = x := by cases p <;> rfl

@[simp] theorem PerPipe.set_set (x : PerPipe α) (p : Pipe) (v w : α) : (x.set p v).set p w = x.set p w := by
  cases p <;> rfl

/-- Two registers that agree at every index are the same. -/
theorem PerPipe.ext_get (x y : PerPipe α) (h : ∀ p, x.get p = y.get p) : x = y := by
  have h0 := h .p0; have h1 := h .p1; have h2 := h .p2
  have h3 := h .p3; have h4 := h .p4; have h5 := h .p5
  cases x; cases y
  simp only [PerPipe.get] at h0 h1 h2 h3 h4 h5
  subst h0 h1 h2 h3 h4 h5; rfl

end Machine

end Sys2Proof
end

