-- ==== Sys2Proof/Laws/State.lean ====
section
/-! SUPPORT. The fields of the state after each primitive of Machine/Ops.lean: one lemma per field per update. -/

namespace Sys2Proof.Machine

/-! ## The named transactions are `transact` -/

@[simp] theorem radioWriteReg_eq (r : RadioReg) (b : List Byte) (s : State) : radioWriteReg r b s = transact (.writeReg r b) s := rfl
@[simp] theorem radioStatusRead_eq (s : State) : radioStatusRead s = transact (.readStatus) s := rfl
@[simp] theorem radioReadRxPayload_eq (s : State) : radioReadRxPayload s = transact (.readRxPayload) s := rfl
@[simp] theorem radioWriteTxPayload_eq (f : List Byte) (s : State) : radioWriteTxPayload f s = transact (.writeTxPayload f) s := rfl
@[simp] theorem radioFlushTx_eq (s : State) : radioFlushTx s = transact (.flushTx) s := rfl
@[simp] theorem radioFlushRx_eq (s : State) : radioFlushRx s = transact (.flushRx) s := rfl
@[simp] theorem radioClearAll_eq (s : State) : radioClearAll s = transact (.clearFlags true true true) s := rfl
@[simp] theorem radioClearRxDr_eq (s : State) : radioClearRxDr s = transact (.clearFlags true false false) s := rfl
@[simp] theorem radioSetMode_eq (m : RadioMode) (s : State) : radioSetMode m s = transact (.setMode m) s := rfl

/-! ## respond -/

@[simp] theorem respond_mode (st : Status) (r : List Byte) (s : State) : (respond st r s).mode = s.mode := rfl
@[simp] theorem respond_txStart (st : Status) (r : List Byte) (s : State) : (respond st r s).txStart = s.txStart := rfl
@[simp] theorem respond_cfgChannel (st : Status) (r : List Byte) (s : State) : (respond st r s).cfgChannel = s.cfgChannel := rfl
@[simp] theorem respond_cfgPipeEn (st : Status) (r : List Byte) (s : State) : (respond st r s).cfgPipeEn = s.cfgPipeEn := rfl
@[simp] theorem respond_cfgRxHi0 (st : Status) (r : List Byte) (s : State) : (respond st r s).cfgRxHi0 = s.cfgRxHi0 := rfl
@[simp] theorem respond_cfgRxHi1 (st : Status) (r : List Byte) (s : State) : (respond st r s).cfgRxHi1 = s.cfgRxHi1 := rfl
@[simp] theorem respond_cfgRxLo (st : Status) (r : List Byte) (s : State) : (respond st r s).cfgRxLo = s.cfgRxLo := rfl
@[simp] theorem respond_cfgTxHi (st : Status) (r : List Byte) (s : State) : (respond st r s).cfgTxHi = s.cfgTxHi := rfl
@[simp] theorem respond_cfgTxLo (st : Status) (r : List Byte) (s : State) : (respond st r s).cfgTxLo = s.cfgTxLo := rfl
@[simp] theorem respond_ce (st : Status) (r : List Byte) (s : State) : (respond st r s).ce = s.ce := rfl
@[simp] theorem respond_irqEn (st : Status) (r : List Byte) (s : State) : (respond st r s).irqEn = s.irqEn := rfl
@[simp] theorem respond_irqPend (st : Status) (r : List Byte) (s : State) : (respond st r s).irqPend = s.irqPend := rfl
@[simp] theorem respond_q (st : Status) (r : List Byte) (s : State) : (respond st r s).q = s.q := rfl
@[simp] theorem respond_cntCksumErr (st : Status) (r : List Byte) (s : State) : (respond st r s).cntCksumErr = s.cntCksumErr := rfl
@[simp] theorem respond_cntReset (st : Status) (r : List Byte) (s : State) : (respond st r s).cntReset = s.cntReset := rfl
@[simp] theorem respond_rtHdrValid (st : Status) (r : List Byte) (s : State) : (respond st r s).rtHdrValid = s.rtHdrValid := rfl
@[simp] theorem respond_rtHdr (st : Status) (r : List Byte) (s : State) : (respond st r s).rtHdr = s.rtHdr := rfl
@[simp] theorem respond_rtErr (st : Status) (r : List Byte) (s : State) : (respond st r s).rtErr = s.rtErr := rfl
@[simp] theorem respond_sender (st : Status) (r : List Byte) (s : State) : (respond st r s).sender = s.sender := rfl
@[simp] theorem respond_params (st : Status) (r : List Byte) (s : State) : (respond st r s).params = s.params := rfl
@[simp] theorem respond_now (st : Status) (r : List Byte) (s : State) : (respond st r s).now = s.now := rfl
@[simp] theorem respond_nowNext (st : Status) (r : List Byte) (s : State) : (respond st r s).nowNext = s.nowNext := rfl
@[simp] theorem respond_radioStatus (st : Status) (r : List Byte) (s : State) : (respond st r s).radioStatus = s.radioStatus := rfl
@[simp] theorem respond_radioFrame (st : Status) (r : List Byte) (s : State) : (respond st r s).radioFrame = s.radioFrame := rfl
@[simp] theorem respond_irqLine (st : Status) (r : List Byte) (s : State) : (respond st r s).irqLine = s.irqLine := rfl
@[simp] theorem respond_agenda (st : Status) (r : List Byte) (s : State) : (respond st r s).agenda = s.agenda := rfl
@[simp] theorem respond_hostIn (st : Status) (r : List Byte) (s : State) : (respond st r s).hostIn = s.hostIn := rfl
@[simp] theorem respond_hostOut (st : Status) (r : List Byte) (s : State) : (respond st r s).hostOut = s.hostOut ++ [st.code :: r] := rfl
@[simp] theorem respond_radioTrace (st : Status) (r : List Byte) (s : State) : (respond st r s).radioTrace = s.radioTrace := rfl
@[simp] theorem respond_dispatchOut (st : Status) (r : List Byte) (s : State) : (respond st r s).dispatchOut = s.dispatchOut := rfl
@[simp] theorem respond_conditions (st : Status) (r : List Byte) (s : State) : (respond st r s).conditions = s.conditions := rfl

/-! ## raiseCond -/

@[simp] theorem raiseCond_mode (c : Condition) (s : State) : (raiseCond c s).mode = s.mode := rfl
@[simp] theorem raiseCond_txStart (c : Condition) (s : State) : (raiseCond c s).txStart = s.txStart := rfl
@[simp] theorem raiseCond_cfgChannel (c : Condition) (s : State) : (raiseCond c s).cfgChannel = s.cfgChannel := rfl
@[simp] theorem raiseCond_cfgPipeEn (c : Condition) (s : State) : (raiseCond c s).cfgPipeEn = s.cfgPipeEn := rfl
@[simp] theorem raiseCond_cfgRxHi0 (c : Condition) (s : State) : (raiseCond c s).cfgRxHi0 = s.cfgRxHi0 := rfl
@[simp] theorem raiseCond_cfgRxHi1 (c : Condition) (s : State) : (raiseCond c s).cfgRxHi1 = s.cfgRxHi1 := rfl
@[simp] theorem raiseCond_cfgRxLo (c : Condition) (s : State) : (raiseCond c s).cfgRxLo = s.cfgRxLo := rfl
@[simp] theorem raiseCond_cfgTxHi (c : Condition) (s : State) : (raiseCond c s).cfgTxHi = s.cfgTxHi := rfl
@[simp] theorem raiseCond_cfgTxLo (c : Condition) (s : State) : (raiseCond c s).cfgTxLo = s.cfgTxLo := rfl
@[simp] theorem raiseCond_ce (c : Condition) (s : State) : (raiseCond c s).ce = s.ce := rfl
@[simp] theorem raiseCond_irqEn (c : Condition) (s : State) : (raiseCond c s).irqEn = s.irqEn := rfl
@[simp] theorem raiseCond_irqPend (c : Condition) (s : State) : (raiseCond c s).irqPend = s.irqPend := rfl
@[simp] theorem raiseCond_q (c : Condition) (s : State) : (raiseCond c s).q = s.q := rfl
@[simp] theorem raiseCond_cntCksumErr (c : Condition) (s : State) : (raiseCond c s).cntCksumErr = s.cntCksumErr := rfl
@[simp] theorem raiseCond_cntReset (c : Condition) (s : State) : (raiseCond c s).cntReset = s.cntReset := rfl
@[simp] theorem raiseCond_rtHdrValid (c : Condition) (s : State) : (raiseCond c s).rtHdrValid = s.rtHdrValid := rfl
@[simp] theorem raiseCond_rtHdr (c : Condition) (s : State) : (raiseCond c s).rtHdr = s.rtHdr := rfl
@[simp] theorem raiseCond_rtErr (c : Condition) (s : State) : (raiseCond c s).rtErr = s.rtErr := rfl
@[simp] theorem raiseCond_sender (c : Condition) (s : State) : (raiseCond c s).sender = s.sender := rfl
@[simp] theorem raiseCond_params (c : Condition) (s : State) : (raiseCond c s).params = s.params := rfl
@[simp] theorem raiseCond_now (c : Condition) (s : State) : (raiseCond c s).now = s.now := rfl
@[simp] theorem raiseCond_nowNext (c : Condition) (s : State) : (raiseCond c s).nowNext = s.nowNext := rfl
@[simp] theorem raiseCond_radioStatus (c : Condition) (s : State) : (raiseCond c s).radioStatus = s.radioStatus := rfl
@[simp] theorem raiseCond_radioFrame (c : Condition) (s : State) : (raiseCond c s).radioFrame = s.radioFrame := rfl
@[simp] theorem raiseCond_irqLine (c : Condition) (s : State) : (raiseCond c s).irqLine = s.irqLine := rfl
@[simp] theorem raiseCond_agenda (c : Condition) (s : State) : (raiseCond c s).agenda = s.agenda := rfl
@[simp] theorem raiseCond_hostIn (c : Condition) (s : State) : (raiseCond c s).hostIn = s.hostIn := rfl
@[simp] theorem raiseCond_hostOut (c : Condition) (s : State) : (raiseCond c s).hostOut = s.hostOut := rfl
@[simp] theorem raiseCond_radioTrace (c : Condition) (s : State) : (raiseCond c s).radioTrace = s.radioTrace := rfl
@[simp] theorem raiseCond_dispatchOut (c : Condition) (s : State) : (raiseCond c s).dispatchOut = s.dispatchOut := rfl
@[simp] theorem raiseCond_conditions (c : Condition) (s : State) : (raiseCond c s).conditions = s.conditions ++ [c] := rfl

/-! ## emitDispatch -/

@[simp] theorem emitDispatch_mode (e : DispatchEvent) (s : State) : (emitDispatch e s).mode = s.mode := rfl
@[simp] theorem emitDispatch_txStart (e : DispatchEvent) (s : State) : (emitDispatch e s).txStart = s.txStart := rfl
@[simp] theorem emitDispatch_cfgChannel (e : DispatchEvent) (s : State) : (emitDispatch e s).cfgChannel = s.cfgChannel := rfl
@[simp] theorem emitDispatch_cfgPipeEn (e : DispatchEvent) (s : State) : (emitDispatch e s).cfgPipeEn = s.cfgPipeEn := rfl
@[simp] theorem emitDispatch_cfgRxHi0 (e : DispatchEvent) (s : State) : (emitDispatch e s).cfgRxHi0 = s.cfgRxHi0 := rfl
@[simp] theorem emitDispatch_cfgRxHi1 (e : DispatchEvent) (s : State) : (emitDispatch e s).cfgRxHi1 = s.cfgRxHi1 := rfl
@[simp] theorem emitDispatch_cfgRxLo (e : DispatchEvent) (s : State) : (emitDispatch e s).cfgRxLo = s.cfgRxLo := rfl
@[simp] theorem emitDispatch_cfgTxHi (e : DispatchEvent) (s : State) : (emitDispatch e s).cfgTxHi = s.cfgTxHi := rfl
@[simp] theorem emitDispatch_cfgTxLo (e : DispatchEvent) (s : State) : (emitDispatch e s).cfgTxLo = s.cfgTxLo := rfl
@[simp] theorem emitDispatch_ce (e : DispatchEvent) (s : State) : (emitDispatch e s).ce = s.ce := rfl
@[simp] theorem emitDispatch_irqEn (e : DispatchEvent) (s : State) : (emitDispatch e s).irqEn = s.irqEn := rfl
@[simp] theorem emitDispatch_irqPend (e : DispatchEvent) (s : State) : (emitDispatch e s).irqPend = s.irqPend := rfl
@[simp] theorem emitDispatch_q (e : DispatchEvent) (s : State) : (emitDispatch e s).q = s.q := rfl
@[simp] theorem emitDispatch_cntCksumErr (e : DispatchEvent) (s : State) : (emitDispatch e s).cntCksumErr = s.cntCksumErr := rfl
@[simp] theorem emitDispatch_cntReset (e : DispatchEvent) (s : State) : (emitDispatch e s).cntReset = s.cntReset := rfl
@[simp] theorem emitDispatch_rtHdrValid (e : DispatchEvent) (s : State) : (emitDispatch e s).rtHdrValid = s.rtHdrValid := rfl
@[simp] theorem emitDispatch_rtHdr (e : DispatchEvent) (s : State) : (emitDispatch e s).rtHdr = s.rtHdr := rfl
@[simp] theorem emitDispatch_rtErr (e : DispatchEvent) (s : State) : (emitDispatch e s).rtErr = s.rtErr := rfl
@[simp] theorem emitDispatch_sender (e : DispatchEvent) (s : State) : (emitDispatch e s).sender = s.sender := rfl
@[simp] theorem emitDispatch_params (e : DispatchEvent) (s : State) : (emitDispatch e s).params = s.params := rfl
@[simp] theorem emitDispatch_now (e : DispatchEvent) (s : State) : (emitDispatch e s).now = s.now := rfl
@[simp] theorem emitDispatch_nowNext (e : DispatchEvent) (s : State) : (emitDispatch e s).nowNext = s.nowNext := rfl
@[simp] theorem emitDispatch_radioStatus (e : DispatchEvent) (s : State) : (emitDispatch e s).radioStatus = s.radioStatus := rfl
@[simp] theorem emitDispatch_radioFrame (e : DispatchEvent) (s : State) : (emitDispatch e s).radioFrame = s.radioFrame := rfl
@[simp] theorem emitDispatch_irqLine (e : DispatchEvent) (s : State) : (emitDispatch e s).irqLine = s.irqLine := rfl
@[simp] theorem emitDispatch_agenda (e : DispatchEvent) (s : State) : (emitDispatch e s).agenda = s.agenda := rfl
@[simp] theorem emitDispatch_hostIn (e : DispatchEvent) (s : State) : (emitDispatch e s).hostIn = s.hostIn := rfl
@[simp] theorem emitDispatch_hostOut (e : DispatchEvent) (s : State) : (emitDispatch e s).hostOut = s.hostOut := rfl
@[simp] theorem emitDispatch_radioTrace (e : DispatchEvent) (s : State) : (emitDispatch e s).radioTrace = s.radioTrace := rfl
@[simp] theorem emitDispatch_dispatchOut (e : DispatchEvent) (s : State) : (emitDispatch e s).dispatchOut = s.dispatchOut ++ [e] := rfl
@[simp] theorem emitDispatch_conditions (e : DispatchEvent) (s : State) : (emitDispatch e s).conditions = s.conditions := rfl

/-! ## clockSampled -/

@[simp] theorem clockSampled_mode (s : State) : (clockSampled s).mode = s.mode := rfl
@[simp] theorem clockSampled_txStart (s : State) : (clockSampled s).txStart = s.txStart := rfl
@[simp] theorem clockSampled_cfgChannel (s : State) : (clockSampled s).cfgChannel = s.cfgChannel := rfl
@[simp] theorem clockSampled_cfgPipeEn (s : State) : (clockSampled s).cfgPipeEn = s.cfgPipeEn := rfl
@[simp] theorem clockSampled_cfgRxHi0 (s : State) : (clockSampled s).cfgRxHi0 = s.cfgRxHi0 := rfl
@[simp] theorem clockSampled_cfgRxHi1 (s : State) : (clockSampled s).cfgRxHi1 = s.cfgRxHi1 := rfl
@[simp] theorem clockSampled_cfgRxLo (s : State) : (clockSampled s).cfgRxLo = s.cfgRxLo := rfl
@[simp] theorem clockSampled_cfgTxHi (s : State) : (clockSampled s).cfgTxHi = s.cfgTxHi := rfl
@[simp] theorem clockSampled_cfgTxLo (s : State) : (clockSampled s).cfgTxLo = s.cfgTxLo := rfl
@[simp] theorem clockSampled_ce (s : State) : (clockSampled s).ce = s.ce := rfl
@[simp] theorem clockSampled_irqEn (s : State) : (clockSampled s).irqEn = s.irqEn := rfl
@[simp] theorem clockSampled_irqPend (s : State) : (clockSampled s).irqPend = s.irqPend := rfl
@[simp] theorem clockSampled_q (s : State) : (clockSampled s).q = s.q := rfl
@[simp] theorem clockSampled_cntCksumErr (s : State) : (clockSampled s).cntCksumErr = s.cntCksumErr := rfl
@[simp] theorem clockSampled_cntReset (s : State) : (clockSampled s).cntReset = s.cntReset := rfl
@[simp] theorem clockSampled_rtHdrValid (s : State) : (clockSampled s).rtHdrValid = s.rtHdrValid := rfl
@[simp] theorem clockSampled_rtHdr (s : State) : (clockSampled s).rtHdr = s.rtHdr := rfl
@[simp] theorem clockSampled_rtErr (s : State) : (clockSampled s).rtErr = s.rtErr := rfl
@[simp] theorem clockSampled_sender (s : State) : (clockSampled s).sender = s.sender := rfl
@[simp] theorem clockSampled_params (s : State) : (clockSampled s).params = s.params := rfl
@[simp] theorem clockSampled_now (s : State) : (clockSampled s).now = s.nowNext.headD s.now := rfl
@[simp] theorem clockSampled_nowNext (s : State) : (clockSampled s).nowNext = s.nowNext.tail := rfl
@[simp] theorem clockSampled_radioStatus (s : State) : (clockSampled s).radioStatus = s.radioStatus := rfl
@[simp] theorem clockSampled_radioFrame (s : State) : (clockSampled s).radioFrame = s.radioFrame := rfl
@[simp] theorem clockSampled_irqLine (s : State) : (clockSampled s).irqLine = s.irqLine := rfl
@[simp] theorem clockSampled_agenda (s : State) : (clockSampled s).agenda = s.agenda := rfl
@[simp] theorem clockSampled_hostIn (s : State) : (clockSampled s).hostIn = s.hostIn := rfl
@[simp] theorem clockSampled_hostOut (s : State) : (clockSampled s).hostOut = s.hostOut := rfl
@[simp] theorem clockSampled_radioTrace (s : State) : (clockSampled s).radioTrace = s.radioTrace := rfl
@[simp] theorem clockSampled_dispatchOut (s : State) : (clockSampled s).dispatchOut = s.dispatchOut := rfl
@[simp] theorem clockSampled_conditions (s : State) : (clockSampled s).conditions = s.conditions := rfl

/-! ## transact -/

@[simp] theorem transact_mode (t : RadioOp) (s : State) : (transact t s).mode = s.mode := rfl
@[simp] theorem transact_txStart (t : RadioOp) (s : State) : (transact t s).txStart = s.txStart := rfl
@[simp] theorem transact_cfgChannel (t : RadioOp) (s : State) : (transact t s).cfgChannel = s.cfgChannel := rfl
@[simp] theorem transact_cfgPipeEn (t : RadioOp) (s : State) : (transact t s).cfgPipeEn = s.cfgPipeEn := rfl
@[simp] theorem transact_cfgRxHi0 (t : RadioOp) (s : State) : (transact t s).cfgRxHi0 = s.cfgRxHi0 := rfl
@[simp] theorem transact_cfgRxHi1 (t : RadioOp) (s : State) : (transact t s).cfgRxHi1 = s.cfgRxHi1 := rfl
@[simp] theorem transact_cfgRxLo (t : RadioOp) (s : State) : (transact t s).cfgRxLo = s.cfgRxLo := rfl
@[simp] theorem transact_cfgTxHi (t : RadioOp) (s : State) : (transact t s).cfgTxHi = s.cfgTxHi := rfl
@[simp] theorem transact_cfgTxLo (t : RadioOp) (s : State) : (transact t s).cfgTxLo = s.cfgTxLo := rfl
@[simp] theorem transact_ce (t : RadioOp) (s : State) : (transact t s).ce = s.ce := rfl
@[simp] theorem transact_irqEn (t : RadioOp) (s : State) : (transact t s).irqEn = s.irqEn := rfl
@[simp] theorem transact_irqPend (t : RadioOp) (s : State) : (transact t s).irqPend = s.irqPend := rfl
@[simp] theorem transact_q (t : RadioOp) (s : State) : (transact t s).q = s.q := rfl
@[simp] theorem transact_cntCksumErr (t : RadioOp) (s : State) : (transact t s).cntCksumErr = s.cntCksumErr := rfl
@[simp] theorem transact_cntReset (t : RadioOp) (s : State) : (transact t s).cntReset = s.cntReset := rfl
@[simp] theorem transact_rtHdrValid (t : RadioOp) (s : State) : (transact t s).rtHdrValid = s.rtHdrValid := rfl
@[simp] theorem transact_rtHdr (t : RadioOp) (s : State) : (transact t s).rtHdr = s.rtHdr := rfl
@[simp] theorem transact_rtErr (t : RadioOp) (s : State) : (transact t s).rtErr = s.rtErr := rfl
@[simp] theorem transact_sender (t : RadioOp) (s : State) : (transact t s).sender = s.sender := rfl
@[simp] theorem transact_params (t : RadioOp) (s : State) : (transact t s).params = s.params := rfl
@[simp] theorem transact_now (t : RadioOp) (s : State) : (transact t s).now = s.now := rfl
@[simp] theorem transact_nowNext (t : RadioOp) (s : State) : (transact t s).nowNext = s.nowNext := rfl
@[simp] theorem transact_radioStatus (t : RadioOp) (s : State) : (transact t s).radioStatus = s.radioStatus := rfl
@[simp] theorem transact_radioFrame (t : RadioOp) (s : State) : (transact t s).radioFrame = s.radioFrame := rfl
@[simp] theorem transact_irqLine (t : RadioOp) (s : State) : (transact t s).irqLine = s.irqLine := rfl
@[simp] theorem transact_agenda (t : RadioOp) (s : State) : (transact t s).agenda = s.agenda := rfl
@[simp] theorem transact_hostIn (t : RadioOp) (s : State) : (transact t s).hostIn = s.hostIn := rfl
@[simp] theorem transact_hostOut (t : RadioOp) (s : State) : (transact t s).hostOut = s.hostOut := rfl
@[simp] theorem transact_radioTrace (t : RadioOp) (s : State) : (transact t s).radioTrace = s.radioTrace ++ [t] := rfl
@[simp] theorem transact_dispatchOut (t : RadioOp) (s : State) : (transact t s).dispatchOut = s.dispatchOut := rfl
@[simp] theorem transact_conditions (t : RadioOp) (s : State) : (transact t s).conditions = s.conditions := rfl

/-! ## driveCe -/

@[simp] theorem driveCe_mode (b : Bool) (s : State) : (driveCe b s).mode = s.mode := rfl
@[simp] theorem driveCe_txStart (b : Bool) (s : State) : (driveCe b s).txStart = s.txStart := rfl
@[simp] theorem driveCe_cfgChannel (b : Bool) (s : State) : (driveCe b s).cfgChannel = s.cfgChannel := rfl
@[simp] theorem driveCe_cfgPipeEn (b : Bool) (s : State) : (driveCe b s).cfgPipeEn = s.cfgPipeEn := rfl
@[simp] theorem driveCe_cfgRxHi0 (b : Bool) (s : State) : (driveCe b s).cfgRxHi0 = s.cfgRxHi0 := rfl
@[simp] theorem driveCe_cfgRxHi1 (b : Bool) (s : State) : (driveCe b s).cfgRxHi1 = s.cfgRxHi1 := rfl
@[simp] theorem driveCe_cfgRxLo (b : Bool) (s : State) : (driveCe b s).cfgRxLo = s.cfgRxLo := rfl
@[simp] theorem driveCe_cfgTxHi (b : Bool) (s : State) : (driveCe b s).cfgTxHi = s.cfgTxHi := rfl
@[simp] theorem driveCe_cfgTxLo (b : Bool) (s : State) : (driveCe b s).cfgTxLo = s.cfgTxLo := rfl
@[simp] theorem driveCe_ce (b : Bool) (s : State) : (driveCe b s).ce = b := rfl
@[simp] theorem driveCe_irqEn (b : Bool) (s : State) : (driveCe b s).irqEn = s.irqEn := rfl
@[simp] theorem driveCe_irqPend (b : Bool) (s : State) : (driveCe b s).irqPend = s.irqPend := rfl
@[simp] theorem driveCe_q (b : Bool) (s : State) : (driveCe b s).q = s.q := rfl
@[simp] theorem driveCe_cntCksumErr (b : Bool) (s : State) : (driveCe b s).cntCksumErr = s.cntCksumErr := rfl
@[simp] theorem driveCe_cntReset (b : Bool) (s : State) : (driveCe b s).cntReset = s.cntReset := rfl
@[simp] theorem driveCe_rtHdrValid (b : Bool) (s : State) : (driveCe b s).rtHdrValid = s.rtHdrValid := rfl
@[simp] theorem driveCe_rtHdr (b : Bool) (s : State) : (driveCe b s).rtHdr = s.rtHdr := rfl
@[simp] theorem driveCe_rtErr (b : Bool) (s : State) : (driveCe b s).rtErr = s.rtErr := rfl
@[simp] theorem driveCe_sender (b : Bool) (s : State) : (driveCe b s).sender = s.sender := rfl
@[simp] theorem driveCe_params (b : Bool) (s : State) : (driveCe b s).params = s.params := rfl
@[simp] theorem driveCe_now (b : Bool) (s : State) : (driveCe b s).now = s.now := rfl
@[simp] theorem driveCe_nowNext (b : Bool) (s : State) : (driveCe b s).nowNext = s.nowNext := rfl
@[simp] theorem driveCe_radioStatus (b : Bool) (s : State) : (driveCe b s).radioStatus = s.radioStatus := rfl
@[simp] theorem driveCe_radioFrame (b : Bool) (s : State) : (driveCe b s).radioFrame = s.radioFrame := rfl
@[simp] theorem driveCe_irqLine (b : Bool) (s : State) : (driveCe b s).irqLine = s.irqLine := rfl
@[simp] theorem driveCe_agenda (b : Bool) (s : State) : (driveCe b s).agenda = s.agenda := rfl
@[simp] theorem driveCe_hostIn (b : Bool) (s : State) : (driveCe b s).hostIn = s.hostIn := rfl
@[simp] theorem driveCe_hostOut (b : Bool) (s : State) : (driveCe b s).hostOut = s.hostOut := rfl
@[simp] theorem driveCe_radioTrace (b : Bool) (s : State) : (driveCe b s).radioTrace = s.radioTrace ++ [.ce b] := rfl
@[simp] theorem driveCe_dispatchOut (b : Bool) (s : State) : (driveCe b s).dispatchOut = s.dispatchOut := rfl
@[simp] theorem driveCe_conditions (b : Bool) (s : State) : (driveCe b s).conditions = s.conditions := rfl

/-! ## writeTxAddr -/

@[simp] theorem writeTxAddr_mode (h : Hi32) (l : Byte) (s : State) : (writeTxAddr h l s).mode = s.mode := rfl
@[simp] theorem writeTxAddr_txStart (h : Hi32) (l : Byte) (s : State) : (writeTxAddr h l s).txStart = s.txStart := rfl
@[simp] theorem writeTxAddr_cfgChannel (h : Hi32) (l : Byte) (s : State) : (writeTxAddr h l s).cfgChannel = s.cfgChannel := rfl
@[simp] theorem writeTxAddr_cfgPipeEn (h : Hi32) (l : Byte) (s : State) : (writeTxAddr h l s).cfgPipeEn = s.cfgPipeEn := rfl
@[simp] theorem writeTxAddr_cfgRxHi0 (h : Hi32) (l : Byte) (s : State) : (writeTxAddr h l s).cfgRxHi0 = s.cfgRxHi0 := rfl
@[simp] theorem writeTxAddr_cfgRxHi1 (h : Hi32) (l : Byte) (s : State) : (writeTxAddr h l s).cfgRxHi1 = s.cfgRxHi1 := rfl
@[simp] theorem writeTxAddr_cfgRxLo (h : Hi32) (l : Byte) (s : State) : (writeTxAddr h l s).cfgRxLo = s.cfgRxLo := rfl
@[simp] theorem writeTxAddr_cfgTxHi (h : Hi32) (l : Byte) (s : State) : (writeTxAddr h l s).cfgTxHi = h := rfl
@[simp] theorem writeTxAddr_cfgTxLo (h : Hi32) (l : Byte) (s : State) : (writeTxAddr h l s).cfgTxLo = l := rfl
@[simp] theorem writeTxAddr_ce (h : Hi32) (l : Byte) (s : State) : (writeTxAddr h l s).ce = s.ce := rfl
@[simp] theorem writeTxAddr_irqEn (h : Hi32) (l : Byte) (s : State) : (writeTxAddr h l s).irqEn = s.irqEn := rfl
@[simp] theorem writeTxAddr_irqPend (h : Hi32) (l : Byte) (s : State) : (writeTxAddr h l s).irqPend = s.irqPend := rfl
@[simp] theorem writeTxAddr_q (h : Hi32) (l : Byte) (s : State) : (writeTxAddr h l s).q = s.q := rfl
@[simp] theorem writeTxAddr_cntCksumErr (h : Hi32) (l : Byte) (s : State) : (writeTxAddr h l s).cntCksumErr = s.cntCksumErr := rfl
@[simp] theorem writeTxAddr_cntReset (h : Hi32) (l : Byte) (s : State) : (writeTxAddr h l s).cntReset = s.cntReset := rfl
@[simp] theorem writeTxAddr_rtHdrValid (h : Hi32) (l : Byte) (s : State) : (writeTxAddr h l s).rtHdrValid = s.rtHdrValid := rfl
@[simp] theorem writeTxAddr_rtHdr (h : Hi32) (l : Byte) (s : State) : (writeTxAddr h l s).rtHdr = s.rtHdr := rfl
@[simp] theorem writeTxAddr_rtErr (h : Hi32) (l : Byte) (s : State) : (writeTxAddr h l s).rtErr = s.rtErr := rfl
@[simp] theorem writeTxAddr_sender (h : Hi32) (l : Byte) (s : State) : (writeTxAddr h l s).sender = s.sender := rfl
@[simp] theorem writeTxAddr_params (h : Hi32) (l : Byte) (s : State) : (writeTxAddr h l s).params = s.params := rfl
@[simp] theorem writeTxAddr_now (h : Hi32) (l : Byte) (s : State) : (writeTxAddr h l s).now = s.now := rfl
@[simp] theorem writeTxAddr_nowNext (h : Hi32) (l : Byte) (s : State) : (writeTxAddr h l s).nowNext = s.nowNext := rfl
@[simp] theorem writeTxAddr_radioStatus (h : Hi32) (l : Byte) (s : State) : (writeTxAddr h l s).radioStatus = s.radioStatus := rfl
@[simp] theorem writeTxAddr_radioFrame (h : Hi32) (l : Byte) (s : State) : (writeTxAddr h l s).radioFrame = s.radioFrame := rfl
@[simp] theorem writeTxAddr_irqLine (h : Hi32) (l : Byte) (s : State) : (writeTxAddr h l s).irqLine = s.irqLine := rfl
@[simp] theorem writeTxAddr_agenda (h : Hi32) (l : Byte) (s : State) : (writeTxAddr h l s).agenda = s.agenda := rfl
@[simp] theorem writeTxAddr_hostIn (h : Hi32) (l : Byte) (s : State) : (writeTxAddr h l s).hostIn = s.hostIn := rfl
@[simp] theorem writeTxAddr_hostOut (h : Hi32) (l : Byte) (s : State) : (writeTxAddr h l s).hostOut = s.hostOut := rfl
@[simp] theorem writeTxAddr_radioTrace (h : Hi32) (l : Byte) (s : State) : (writeTxAddr h l s).radioTrace = s.radioTrace ++ [.writeReg .txAddr (addr5 h l)] := rfl
@[simp] theorem writeTxAddr_dispatchOut (h : Hi32) (l : Byte) (s : State) : (writeTxAddr h l s).dispatchOut = s.dispatchOut := rfl
@[simp] theorem writeTxAddr_conditions (h : Hi32) (l : Byte) (s : State) : (writeTxAddr h l s).conditions = s.conditions := rfl

/-! ## irqEntry -/

@[simp] theorem irqEntry_mode (s : State) : (irqEntry s).mode = s.mode := rfl
@[simp] theorem irqEntry_txStart (s : State) : (irqEntry s).txStart = s.txStart := rfl
@[simp] theorem irqEntry_cfgChannel (s : State) : (irqEntry s).cfgChannel = s.cfgChannel := rfl
@[simp] theorem irqEntry_cfgPipeEn (s : State) : (irqEntry s).cfgPipeEn = s.cfgPipeEn := rfl
@[simp] theorem irqEntry_cfgRxHi0 (s : State) : (irqEntry s).cfgRxHi0 = s.cfgRxHi0 := rfl
@[simp] theorem irqEntry_cfgRxHi1 (s : State) : (irqEntry s).cfgRxHi1 = s.cfgRxHi1 := rfl
@[simp] theorem irqEntry_cfgRxLo (s : State) : (irqEntry s).cfgRxLo = s.cfgRxLo := rfl
@[simp] theorem irqEntry_cfgTxHi (s : State) : (irqEntry s).cfgTxHi = s.cfgTxHi := rfl
@[simp] theorem irqEntry_cfgTxLo (s : State) : (irqEntry s).cfgTxLo = s.cfgTxLo := rfl
@[simp] theorem irqEntry_ce (s : State) : (irqEntry s).ce = s.ce := rfl
@[simp] theorem irqEntry_irqEn (s : State) : (irqEntry s).irqEn = s.irqEn := rfl
@[simp] theorem irqEntry_irqPend (s : State) : (irqEntry s).irqPend = false := rfl
@[simp] theorem irqEntry_q (s : State) : (irqEntry s).q = s.q := rfl
@[simp] theorem irqEntry_cntCksumErr (s : State) : (irqEntry s).cntCksumErr = s.cntCksumErr := rfl
@[simp] theorem irqEntry_cntReset (s : State) : (irqEntry s).cntReset = s.cntReset := rfl
@[simp] theorem irqEntry_rtHdrValid (s : State) : (irqEntry s).rtHdrValid = s.rtHdrValid := rfl
@[simp] theorem irqEntry_rtHdr (s : State) : (irqEntry s).rtHdr = s.rtHdr := rfl
@[simp] theorem irqEntry_rtErr (s : State) : (irqEntry s).rtErr = s.rtErr := rfl
@[simp] theorem irqEntry_sender (s : State) : (irqEntry s).sender = s.sender := rfl
@[simp] theorem irqEntry_params (s : State) : (irqEntry s).params = s.params := rfl
@[simp] theorem irqEntry_now (s : State) : (irqEntry s).now = s.now := rfl
@[simp] theorem irqEntry_nowNext (s : State) : (irqEntry s).nowNext = s.nowNext := rfl
@[simp] theorem irqEntry_radioStatus (s : State) : (irqEntry s).radioStatus = s.radioStatus := rfl
@[simp] theorem irqEntry_radioFrame (s : State) : (irqEntry s).radioFrame = s.radioFrame := rfl
@[simp] theorem irqEntry_irqLine (s : State) : (irqEntry s).irqLine = s.irqLine := rfl
@[simp] theorem irqEntry_agenda (s : State) : (irqEntry s).agenda = s.agenda := rfl
@[simp] theorem irqEntry_hostIn (s : State) : (irqEntry s).hostIn = s.hostIn := rfl
@[simp] theorem irqEntry_hostOut (s : State) : (irqEntry s).hostOut = s.hostOut := rfl
@[simp] theorem irqEntry_radioTrace (s : State) : (irqEntry s).radioTrace = s.radioTrace := rfl
@[simp] theorem irqEntry_dispatchOut (s : State) : (irqEntry s).dispatchOut = s.dispatchOut := rfl
@[simp] theorem irqEntry_conditions (s : State) : (irqEntry s).conditions = s.conditions := rfl

/-! ## setIrqLine -/

@[simp] theorem setIrqLine_mode (b : Bool) (s : State) : (setIrqLine b s).mode = s.mode := rfl
@[simp] theorem setIrqLine_txStart (b : Bool) (s : State) : (setIrqLine b s).txStart = s.txStart := rfl
@[simp] theorem setIrqLine_cfgChannel (b : Bool) (s : State) : (setIrqLine b s).cfgChannel = s.cfgChannel := rfl
@[simp] theorem setIrqLine_cfgPipeEn (b : Bool) (s : State) : (setIrqLine b s).cfgPipeEn = s.cfgPipeEn := rfl
@[simp] theorem setIrqLine_cfgRxHi0 (b : Bool) (s : State) : (setIrqLine b s).cfgRxHi0 = s.cfgRxHi0 := rfl
@[simp] theorem setIrqLine_cfgRxHi1 (b : Bool) (s : State) : (setIrqLine b s).cfgRxHi1 = s.cfgRxHi1 := rfl
@[simp] theorem setIrqLine_cfgRxLo (b : Bool) (s : State) : (setIrqLine b s).cfgRxLo = s.cfgRxLo := rfl
@[simp] theorem setIrqLine_cfgTxHi (b : Bool) (s : State) : (setIrqLine b s).cfgTxHi = s.cfgTxHi := rfl
@[simp] theorem setIrqLine_cfgTxLo (b : Bool) (s : State) : (setIrqLine b s).cfgTxLo = s.cfgTxLo := rfl
@[simp] theorem setIrqLine_ce (b : Bool) (s : State) : (setIrqLine b s).ce = s.ce := rfl
@[simp] theorem setIrqLine_irqEn (b : Bool) (s : State) : (setIrqLine b s).irqEn = s.irqEn := rfl
@[simp] theorem setIrqLine_irqPend (b : Bool) (s : State) : (setIrqLine b s).irqPend = (s.irqPend || (s.irqEn && fallingEdge s b)) := rfl
@[simp] theorem setIrqLine_q (b : Bool) (s : State) : (setIrqLine b s).q = s.q := rfl
@[simp] theorem setIrqLine_cntCksumErr (b : Bool) (s : State) : (setIrqLine b s).cntCksumErr = s.cntCksumErr := rfl
@[simp] theorem setIrqLine_cntReset (b : Bool) (s : State) : (setIrqLine b s).cntReset = s.cntReset := rfl
@[simp] theorem setIrqLine_rtHdrValid (b : Bool) (s : State) : (setIrqLine b s).rtHdrValid = s.rtHdrValid := rfl
@[simp] theorem setIrqLine_rtHdr (b : Bool) (s : State) : (setIrqLine b s).rtHdr = s.rtHdr := rfl
@[simp] theorem setIrqLine_rtErr (b : Bool) (s : State) : (setIrqLine b s).rtErr = s.rtErr := rfl
@[simp] theorem setIrqLine_sender (b : Bool) (s : State) : (setIrqLine b s).sender = s.sender := rfl
@[simp] theorem setIrqLine_params (b : Bool) (s : State) : (setIrqLine b s).params = s.params := rfl
@[simp] theorem setIrqLine_now (b : Bool) (s : State) : (setIrqLine b s).now = s.now := rfl
@[simp] theorem setIrqLine_nowNext (b : Bool) (s : State) : (setIrqLine b s).nowNext = s.nowNext := rfl
@[simp] theorem setIrqLine_radioStatus (b : Bool) (s : State) : (setIrqLine b s).radioStatus = s.radioStatus := rfl
@[simp] theorem setIrqLine_radioFrame (b : Bool) (s : State) : (setIrqLine b s).radioFrame = s.radioFrame := rfl
@[simp] theorem setIrqLine_irqLine (b : Bool) (s : State) : (setIrqLine b s).irqLine = b := rfl
@[simp] theorem setIrqLine_agenda (b : Bool) (s : State) : (setIrqLine b s).agenda = s.agenda := rfl
@[simp] theorem setIrqLine_hostIn (b : Bool) (s : State) : (setIrqLine b s).hostIn = s.hostIn := rfl
@[simp] theorem setIrqLine_hostOut (b : Bool) (s : State) : (setIrqLine b s).hostOut = s.hostOut := rfl
@[simp] theorem setIrqLine_radioTrace (b : Bool) (s : State) : (setIrqLine b s).radioTrace = s.radioTrace := rfl
@[simp] theorem setIrqLine_dispatchOut (b : Bool) (s : State) : (setIrqLine b s).dispatchOut = s.dispatchOut := rfl
@[simp] theorem setIrqLine_conditions (b : Bool) (s : State) : (setIrqLine b s).conditions = s.conditions := rfl

/-! ## The next move -/

theorem step_eq_agentStep (s : State) : step s = agentStep s := rfl

/-- A step performs the next move on the state whose agenda lacks it (log 4). -/
theorem step_of_cons (s : State) (m : Move) (rest : List Move) (h : s.agenda = m :: rest) :
    step s = perform m { s with agenda := rest } := by
  simp [step, agentStep, h]

theorem step_of_nil (s : State) (h : s.agenda = []) : step s = foregroundStep s := by
  simp [step, agentStep, h]

end Sys2Proof.Machine
end

