-- ==== Sys2Proof/Laws/Ops.lean ====
section
/-! SUPPORT. What each shared operation does, once: the gate, the queues, the mode changes, the transmit sequence, the sender. -/

namespace Sys2Proof.Machine

/-! ## The gate -/

theorem gate_closed (o : Op) (body : State → State) (s : State) (h : s.mode = .standby) :
    gate o body s = respond .notInit (zeroResult o) (raiseCond .notInit s) := by
  simp [gate, gateClosed, h]

theorem gate_open (o : Op) (body : State → State) (s : State) (h : s.mode ≠ .standby) : gate o body s = body s := by
  simp [gate, gateClosed, h]

/-! ## The queues -/

@[simp] theorem frame32_length (b : List Byte) : (frame32 b).length = 32 := by simp [frame32, fitBytes]

/-- A list of 32 bytes is read as it stands. -/
theorem frame32_of_length (b : List Byte) (h : b.length = 32) : frame32 b = b := by
  simp [frame32, fitBytes, ← h]

/-- Pushing with room appends. -/
theorem queuePush_of_lt (p : Pipe) (b : Byte) (s : State) (h : (s.q.get p).length < s.params.queueCap) :
    queuePush p b s = { s with q := s.q.set p (s.q.get p ++ [b]) } := by
  simp [queuePush, queueCount, h]

/-- Pushing on a full queue loses the byte. -/
theorem queuePush_of_full (p : Pipe) (b : Byte) (s : State) (h : s.params.queueCap ≤ (s.q.get p).length) :
    queuePush p b s = raiseCond (.queueOverflow p) s := by
  simp [queuePush, queueCount, Nat.not_lt.2 h]

/-- The places free in a queue. -/
def queueRoom (p : Pipe) (s : State) : Nat := s.params.queueCap - (s.q.get p).length

/-- Everything `queuePushAll` can do: the bytes that find room are appended in order, each of the others is lost with one
`QueueOverflow`, and nothing else changes (R61, R215). -/
theorem queuePushAll_eq (p : Pipe) (bs : List Byte) (s : State) :
    queuePushAll p bs s =
      { s with
        q := s.q.set p (s.q.get p ++ bs.take (queueRoom p s)),
        conditions := s.conditions ++ List.replicate (bs.length - queueRoom p s) (.queueOverflow p) } := by
  induction bs generalizing s with
  | nil => simp [queuePushAll]
  | cons b bs ih =>
    rw [queuePushAll, ih]
    by_cases h : (s.q.get p).length < s.params.queueCap
    · obtain ⟨n, hn⟩ : ∃ n, queueRoom p s = n + 1 := ⟨s.params.queueCap - (s.q.get p).length - 1, by
        simp only [queueRoom]; omega⟩
      have hr : queueRoom p { s with q := s.q.set p (s.q.get p ++ [b]) } = n := by
        simp only [queueRoom, PerPipe.get_set_same, List.length_append, List.length_singleton] at hn ⊢; omega
      rw [queuePush_of_lt p b s h, hr, hn]
      simp
    · have h0 : queueRoom p s = 0 := by simp only [queueRoom]; omega
      have hr : queueRoom p (raiseCond (.queueOverflow p) s) = 0 := h0
      rw [queuePush_of_full p b s (Nat.not_lt.1 h), hr, h0]
      simp [raiseCond, List.replicate_succ]

/-- Everything `queuePopN` can do: the first n bytes leave the queue, in order (R62). -/
theorem queuePopN_eq (p : Pipe) (n : Nat) (s : State) :
    queuePopN p n s = ((s.q.get p).take n, { s with q := s.q.set p ((s.q.get p).drop n) }) := by
  induction n generalizing s with
  | zero => simp [queuePopN]
  | succ n ih =>
    cases hq : s.q.get p with
    | nil =>
      have : s.q.set p [] = s.q := by rw [← hq]; simp
      simp [queuePopN, queuePop, hq, this]
    | cons b bs => simp [queuePopN, queuePop, hq, ih]

/-- R60: pushing keeps a queue within its capacity. -/
theorem queuePushAll_length_le (p : Pipe) (bs : List Byte) (s : State) (h : (s.q.get p).length ≤ s.params.queueCap) :
    ((queuePushAll p bs s).q.get p).length ≤ s.params.queueCap := by
  rw [queuePushAll_eq]
  simp only [PerPipe.get_set_same, List.length_append, List.length_take, queueRoom]
  omega

/-- R60: popping keeps a queue within its capacity. -/
theorem queuePopN_length_le (p : Pipe) (n : Nat) (s : State) (h : (s.q.get p).length ≤ s.params.queueCap) :
    ((queuePopN p n s).2.q.get p).length ≤ s.params.queueCap := by
  rw [queuePopN_eq]
  simp only [PerPipe.get_set_same, List.length_drop]
  omega

/-! ## Counters and the status record -/

/-- R13, R343: below its end a counter grows by one. -/
theorem satInc_of_lt (p : Params) (c : Nat) (h : c < 2 ^ p.cntW - 1) : satInc p c = c + 1 := if_pos h

/-- R13, R343: at its end a counter stays. -/
theorem satInc_of_le (p : Params) (c : Nat) (h : 2 ^ p.cntW - 1 ≤ c) : satInc p c = c := if_neg (Nat.not_lt.2 h)

/-- R216: what DATA_READY reads in the record. -/
theorem dataWaiting_iff (r : StatusRec) : r.dataWaiting = true ↔ r.rxDr = true ∧ r.rxPNo.toNat ≤ 5 := by
  simp [StatusRec.dataWaiting]

/-! ## Mode changes -/

/-- R212, everything `EnterReceive` does. -/
theorem enterReceive_eq (s : State) :
    enterReceive s =
      { s with mode := .receiving, ce := true, radioTrace := s.radioTrace ++ [.ce false, .setMode .rx, .ce true] } := by
  simp [enterReceive, driveCe, transact]

/-- R185, everything `ResetToReceive` does. -/
theorem resetToReceive_eq (s : State) :
    resetToReceive s =
      { s with
        mode := .receiving, ce := true, cntReset := satInc s.params s.cntReset,
        radioTrace := s.radioTrace ++ [.clearFlags true true true, .ce false, .setMode .rx, .ce true] } := by
  simp [resetToReceive, driveCe, transact]

/-- R284, everything a firing of the watchdog does. -/
theorem watchdogFires_eq (s : State) :
    watchdogFires s =
      { s with
        mode := .receiving, ce := true, cntReset := satInc s.params s.cntReset, conditions := s.conditions ++ [.txTimeout],
        radioTrace := s.radioTrace ++ [.clearFlags true true true, .ce false, .setMode .rx, .ce true] } := by
  simp [watchdogFires, resetToReceive_eq, raiseCond]

/-- R182, everything the transmit sequence does. -/
theorem transmitFrame_eq (data : List Byte) (s : State) :
    transmitFrame data s =
      { s with
        mode := .transmitting, ce := true, txStart := s.now, now := s.nowNext.headD s.now, nowNext := s.nowNext.tail,
        radioTrace := s.radioTrace ++
          [.ce false, .setMode .tx, .flushTx, .writeTxPayload (frameOf data), .ce true] } := by
  simp [transmitFrame, driveCe, transact, clockSampled, clockSample]

/-! ## The sender -/

/-- The end of a send changes the transient and adds one response. -/
theorem finishSend_eq (snd : Sender) (st : Status) (s : State) :
    ∃ r, finishSend snd st s = { s with sender := none, hostOut := s.hostOut ++ [st.code :: r] } := by
  cases h : snd.reply <;> simp [finishSend, sendResponse, h, respond]

/-- The two outcomes of a wait's iteration that samples the clock: the watchdog fires, or the command yields. -/
theorem senderExpiry_cases (snd : Sender) (s : State) :
    (expired s.params s.now snd.tWait = true ∧
      senderExpiry snd s = finishSend snd .timeout (watchdogFires (clockSampled s))) ∨
    (expired s.params s.now snd.tWait = false ∧
      senderExpiry snd s = { clockSampled s with sender := some snd }) := by
  cases h : expired s.params s.now snd.tWait <;> simp [senderExpiry, clockSample, h]

/-- The three ways the sender goes on: it waits while a transmission is in flight; it sends a frame and begins the next wait; it
sends the last frame and responds. -/
theorem senderLoop_cases (snd : Sender) (s : State) :
    (s.mode = .transmitting ∧ senderLoop snd s = senderExpiry snd s) ∨
    (s.mode ≠ .transmitting ∧ snd.k + 1 < frameCount snd.len.toNat ∧
      senderLoop snd s =
        senderExpiry
          { snd with k := snd.k + 1, sent := snd.sent + 1#8, tWait := (transmitFrame (chunk snd.data snd.k) s).now }
          (clockSampled (transmitFrame (chunk snd.data snd.k) s))) ∨
    (s.mode ≠ .transmitting ∧ frameCount snd.len.toNat ≤ snd.k + 1 ∧
      senderLoop snd s =
        finishSend { snd with k := snd.k + 1, sent := snd.sent + 1#8 } .ok (transmitFrame (chunk snd.data snd.k) s)) := by
  by_cases hm : s.mode = .transmitting
  · exact .inl ⟨hm, by simp [senderLoop, transmitting, hm]⟩
  · by_cases hk : snd.k + 1 < frameCount snd.len.toNat
    · exact .inr (.inl ⟨hm, hk, by simp [senderLoop, transmitting, hm, hk, clockSample]⟩)
    · exact .inr (.inr ⟨hm, Nat.not_lt.1 hk, by simp [senderLoop, transmitting, hm, hk]⟩)

/-! ## Outcomes -/

/-- No operation stops (60_exceptions: "nothing is fatal"). -/
theorem exec_next (i : Instr) (s : State) : ∃ t, exec i s = .next t := by
  cases i <;> exact ⟨_, rfl⟩

/-- No step stops. -/
theorem step_next (s : State) : ∃ t, step s = .next t := by
  have hf : ∀ s, ∃ t, foregroundStep s = .next t := by
    intro s
    unfold foregroundStep
    split
    · exact ⟨_, rfl⟩
    · split
      · exact ⟨_, rfl⟩
      · unfold runMessage
        split
        · exact exec_next _ _
        · exact ⟨_, rfl⟩
  unfold step agentStep
  split
  · exact hf s
  · next m rest _ =>
    cases m with
    | foreground => exact hf _
    | interrupt =>
      simp only [perform, interruptStep]
      split
      · exact exec_next _ _
      · exact ⟨_, rfl⟩
    | submit _ | clock _ _ | status _ | rxFrame _ | irqLine _ | reset _ => exact ⟨_, rfl⟩

end Sys2Proof.Machine
end

