-- ==== Sys2Proof/Laws/PerInstr.lean ====
section
/-! SUPPORT. Statements about every instruction as syntax, one lemma per constructor of Instr. -/

namespace Sys2Proof.Laws

/-- The message an instruction encodes to carries the code and has the length that R101 and R102 give its row: the trace code
alone for IRQ_SERVICE, otherwise a listed code and the length of its format. -/
def EncodeFits.Statement (i : Instr) : Prop :=
  i.wellFormed = true →
    (i = .irqService ∧ encode i = ⟨irqServiceCode, []⟩) ∨
      ∃ o, Op.ofCode? (encode i).op = some o ∧ (encode i).rest.length = operandLength o.format (encode i).rest

theorem hvOperands_length (data : List Byte) (h : data.length ≤ 255) :
    (hvOperands data).length = operandLength .hv (hvOperands data) := by
  simp [hvOperands, operandLength, Nat.mod_eq_of_lt (show data.length < 256 by omega), Nat.add_comm]

theorem EncodeFits.init : EncodeFits.Statement .init := fun _ => .inr ⟨.init, rfl, rfl⟩

theorem EncodeFits.setChannel (ch : Byte) : EncodeFits.Statement (.setChannel ch) := fun _ => .inr ⟨.setChannel, rfl, rfl⟩

theorem EncodeFits.setRxAddr (pipe : Byte) (hi32 : Hi32) (lo8 : Byte) : EncodeFits.Statement (.setRxAddr pipe hi32 lo8) :=
  fun _ => .inr ⟨.setRxAddr, rfl, rfl⟩

theorem EncodeFits.setTxAddr (hi32 : Hi32) (lo8 : Byte) : EncodeFits.Statement (.setTxAddr hi32 lo8) :=
  fun _ => .inr ⟨.setTxAddr, rfl, rfl⟩

theorem EncodeFits.enablePipes (mask : Byte) : EncodeFits.Statement (.enablePipes mask) :=
  fun _ => .inr ⟨.enablePipes, rfl, rfl⟩

theorem EncodeFits.disablePipes (mask : Byte) : EncodeFits.Statement (.disablePipes mask) :=
  fun _ => .inr ⟨.disablePipes, rfl, rfl⟩

theorem EncodeFits.writePayload (data : List Byte) : EncodeFits.Statement (.writePayload data) := fun h =>
  .inr ⟨.writePayload, rfl, hvOperands_length data (of_decide_eq_true h)⟩

theorem EncodeFits.resetToRx : EncodeFits.Statement .resetToRx := fun _ => .inr ⟨.resetToRx, rfl, rfl⟩

theorem EncodeFits.dataReady : EncodeFits.Statement .dataReady := fun _ => .inr ⟨.dataReady, rfl, rfl⟩

theorem EncodeFits.pipeCount (pipe : Byte) : EncodeFits.Statement (.pipeCount pipe) := fun _ => .inr ⟨.pipeCount, rfl, rfl⟩

theorem EncodeFits.pipeRead (pipe : Byte) : EncodeFits.Statement (.pipeRead pipe) := fun _ => .inr ⟨.pipeRead, rfl, rfl⟩

theorem EncodeFits.getCksumErr : EncodeFits.Statement .getCksumErr := fun _ => .inr ⟨.getCksumErr, rfl, rfl⟩

theorem EncodeFits.getResetCnt : EncodeFits.Statement .getResetCnt := fun _ => .inr ⟨.getResetCnt, rfl, rfl⟩

theorem EncodeFits.getMode : EncodeFits.Statement .getMode := fun _ => .inr ⟨.getMode, rfl, rfl⟩

theorem EncodeFits.routeStep (pipe : Byte) : EncodeFits.Statement (.routeStep pipe) := fun _ => .inr ⟨.routeStep, rfl, rfl⟩

theorem EncodeFits.checksum (data : List Byte) : EncodeFits.Statement (.checksum data) := fun h =>
  .inr ⟨.checksum, rfl, hvOperands_length data (of_decide_eq_true h)⟩

theorem EncodeFits.encodeFrame (data : List Byte) : EncodeFits.Statement (.encodeFrame data) := fun h =>
  .inr ⟨.encodeFrame, rfl, hvOperands_length data (of_decide_eq_true h)⟩

theorem EncodeFits.decodeFrame (frame : List Byte) : EncodeFits.Statement (.decodeFrame frame) := fun h =>
  .inr ⟨.decodeFrame, rfl, of_decide_eq_true h⟩

theorem EncodeFits.irqService : EncodeFits.Statement .irqService := fun _ => .inl ⟨rfl, rfl⟩

end Sys2Proof.Laws
end

