-- ==== Sys2Proof/Laws/Radio.lean ====
section
/-! SUPPORT. What the radio's contract keeps of a frame that has reached the retransmission limit (60_exceptions R306). -/

namespace Sys2Proof.Machine

/-- R306: a transmission that ends at the retransmission limit leaves its frame in the FIFO, held. -/
theorem Radio.conclude_of_limit (r : Radio) (cameBack : Bool) (h : r.maxRt = false)
    (ht : (r.conclude cameBack).maxRt = true) :
    (r.conclude cameBack).txHeld = true ∧ (r.conclude cameBack).txFifo = r.txFifo := by
  unfold Radio.conclude at ht ⊢
  split at ht
  · split at ht
    · exact absurd ht (by simp [h])
    · next hs hd => simp [hs, hd]
  · exact absurd ht (by simp [h])

/-- R306: no end of a transmission takes a held frame out of the FIFO. -/
theorem Radio.conclude_of_held (r : Radio) (cameBack : Bool) (h : r.txHeld = true) :
    (r.conclude cameBack).txHeld = true ∧ (r.conclude cameBack).txFifo = r.txFifo := by
  unfold Radio.conclude
  split
  · split <;> simp [h]
  · exact ⟨h, rfl⟩

/-- R306: of the transactions only the transmit flush takes a held frame out of the FIFO. -/
theorem Radio.react_of_held (p : Params) (r : Radio) (t : RadioOp) (h : r.txHeld = true) (ht : t ≠ .flushTx) :
    (r.react p t).txHeld = true ∧ r.txFifo <+: (r.react p t).txFifo := by
  cases t with
  | flushTx => exact absurd rfl ht
  | writeTxPayload f => exact ⟨h, List.prefix_append _ _⟩
  | writeReg reg bytes =>
    cases reg with
    | rxAddr q => cases q <;> exact ⟨h, List.prefix_refl _⟩
    | _ => exact ⟨h, List.prefix_refl _⟩
  | _ => exact ⟨h, List.prefix_refl _⟩

end Sys2Proof.Machine
end

