-- ==== Sys2Proof/Laws/Sender.lean ====
section
/-! SUPPORT. Everything the sender's loop can do, once: what it never touches, and how it ends or goes on waiting. -/

namespace Sys2Proof.Machine

/-- R33, R181 to R184: the fields the sender can change. -/
theorem senderLoop_frame (snd : Sender) (s : State) :
    senderLoop snd s =
      { s with
        mode := (senderLoop snd s).mode, txStart := (senderLoop snd s).txStart, ce := (senderLoop snd s).ce,
        cntReset := (senderLoop snd s).cntReset, now := (senderLoop snd s).now,
        nowNext := (senderLoop snd s).nowNext, radioTrace := (senderLoop snd s).radioTrace,
        conditions := (senderLoop snd s).conditions, sender := (senderLoop snd s).sender,
        hostOut := (senderLoop snd s).hostOut } := by
  rcases senderLoop_cases snd s with ⟨-, h⟩ | ⟨-, -, h⟩ | ⟨-, -, h⟩
  · rw [h]
    rcases senderExpiry_cases snd s with ⟨-, h⟩ | ⟨-, h⟩
    · obtain ⟨r, hr⟩ := finishSend_eq snd .timeout (watchdogFires (clockSampled s))
      rw [h, hr, watchdogFires_eq]; rfl
    · rw [h]; rfl
  · rw [h]
    rcases senderExpiry_cases
        { snd with k := snd.k + 1, sent := snd.sent + 1#8, tWait := (transmitFrame (chunk snd.data snd.k) s).now }
        (clockSampled (transmitFrame (chunk snd.data snd.k) s)) with ⟨-, h⟩ | ⟨-, h⟩
    · rw [h]
      obtain ⟨r, hr⟩ := finishSend_eq
        { snd with k := snd.k + 1, sent := snd.sent + 1#8, tWait := (transmitFrame (chunk snd.data snd.k) s).now }
        .timeout (watchdogFires (clockSampled (clockSampled (transmitFrame (chunk snd.data snd.k) s))))
      rw [hr, watchdogFires_eq, transmitFrame_eq]; rfl
    · rw [h, transmitFrame_eq]; rfl
  · obtain ⟨r, hr⟩ := finishSend_eq { snd with k := snd.k + 1, sent := snd.sent + 1#8 } .ok
      (transmitFrame (chunk snd.data snd.k) s)
    rw [h, hr, transmitFrame_eq]

/-- R181 to R184: the sender goes on waiting (its transient live, no response, a transmission in flight) or ends (one response, the
recovery path run once or the last frame sent). -/
theorem senderLoop_outcome (snd : Sender) (s : State) :
    (∃ snd', (senderLoop snd s).sender = some snd' ∧ (senderLoop snd s).hostOut = s.hostOut ∧
      (senderLoop snd s).mode = .transmitting ∧ (senderLoop snd s).cntReset = s.cntReset ∧
      snd'.data = snd.data ∧ snd'.len = snd.len ∧
      ((s.mode = .transmitting ∧ snd' = snd ∧ (senderLoop snd s).ce = s.ce ∧
          (senderLoop snd s).radioTrace = s.radioTrace) ∨
        (s.mode ≠ .transmitting ∧ snd'.k = snd.k + 1 ∧ snd'.sent = snd.sent + 1#8 ∧
          snd.k + 1 < frameCount snd.len.toNat ∧ (senderLoop snd s).ce = true ∧
          (senderLoop snd s).radioTrace = s.radioTrace ++
            [.ce false, .setMode .tx, .flushTx, .writeTxPayload (frameOf (chunk snd.data snd.k)), .ce true]))) ∨
    (∃ r, (senderLoop snd s).sender = none ∧ (senderLoop snd s).hostOut = s.hostOut ++ [r] ∧
      (senderLoop snd s).ce = true ∧
      (((senderLoop snd s).mode = .receiving ∧ (senderLoop snd s).cntReset = satInc s.params s.cntReset ∧
          s.radioTrace <+: (senderLoop snd s).radioTrace) ∨
        (s.mode ≠ .transmitting ∧ (senderLoop snd s).mode = .transmitting ∧
          (senderLoop snd s).cntReset = s.cntReset ∧
          (senderLoop snd s).radioTrace = s.radioTrace ++
            [.ce false, .setMode .tx, .flushTx, .writeTxPayload (frameOf (chunk snd.data snd.k)), .ce true]))) := by
  rcases senderLoop_cases snd s with ⟨hm, h⟩ | ⟨hm, hk, h⟩ | ⟨hm, -, h⟩
  · rw [h]
    rcases senderExpiry_cases snd s with ⟨-, h⟩ | ⟨-, h⟩
    · obtain ⟨r, hr⟩ := finishSend_eq snd .timeout (watchdogFires (clockSampled s))
      rw [h, hr, watchdogFires_eq]
      exact .inr ⟨_, rfl, rfl, rfl, .inl ⟨rfl, rfl, List.prefix_append _ _⟩⟩
    · rw [h]
      exact .inl ⟨snd, rfl, rfl, hm, rfl, rfl, rfl, .inl ⟨hm, rfl, rfl, rfl⟩⟩
  · rw [h]
    rcases senderExpiry_cases
        { snd with k := snd.k + 1, sent := snd.sent + 1#8, tWait := (transmitFrame (chunk snd.data snd.k) s).now }
        (clockSampled (transmitFrame (chunk snd.data snd.k) s)) with ⟨-, h⟩ | ⟨-, h⟩
    · rw [h]
      obtain ⟨r, hr⟩ := finishSend_eq
        { snd with k := snd.k + 1, sent := snd.sent + 1#8, tWait := (transmitFrame (chunk snd.data snd.k) s).now }
        .timeout (watchdogFires (clockSampled (clockSampled (transmitFrame (chunk snd.data snd.k) s))))
      rw [hr, watchdogFires_eq, transmitFrame_eq]
      refine .inr ⟨_, rfl, rfl, rfl, .inl ⟨rfl, rfl, ?_⟩⟩
      exact (List.prefix_append _ _).trans (List.prefix_append _ _)
    · rw [h, transmitFrame_eq]
      exact .inl ⟨_, rfl, rfl, rfl, rfl, rfl, rfl, .inr ⟨hm, rfl, rfl, hk, rfl, rfl⟩⟩
  · obtain ⟨r, hr⟩ := finishSend_eq { snd with k := snd.k + 1, sent := snd.sent + 1#8 } .ok
      (transmitFrame (chunk snd.data snd.k) s)
    rw [h, hr, transmitFrame_eq]
    exact .inr ⟨_, rfl, rfl, rfl, .inr ⟨hm, rfl, rfl, rfl⟩⟩

/-- `SendBytes` is the loop begun with a fresh transient, after one sampling of the clock. -/
theorem sendBytes_eq (reply : SendReply) (data : List Byte) (s : State) :
    sendBytes reply data s =
      senderLoop
        { data := data, len := BitVec.ofNat 8 data.length, k := 0, sent := 0#8, tWait := s.now, reply := reply }
        (clockSampled s) := rfl

end Sys2Proof.Machine
end

