-- ==== Sys2Proof/Laws/Router.lean ====
section
/-! SUPPORT. Everything ROUTE_STEP can do on a pipe, once. -/

namespace Sys2Proof.Machine

/-- R240, R250, R254: a whole packet is answered at once, with at most one dispatch event, or given to the sender. -/
theorem routePacket_cases (h : Header) (data : List Byte) (s : State) :
    (∃ cs ds a, ds.length ≤ 1 ∧
      routePacket h data s =
        respondAction .ok a { s with conditions := s.conditions ++ cs, dispatchOut := s.dispatchOut ++ ds }) ∨
    (∃ reply addr, routePacket h data s =
      sendBytes reply (h.bytes ++ data) (writeTxAddr (addrHi addr) (addrLo addr) s)) := by
  unfold routePacket
  split
  · left
    unfold localDispatch
    split
    · exact ⟨[_], [], _, Nat.zero_le _, by simp only [List.append_nil]; rfl⟩
    · split
      · exact ⟨[_], [], _, Nat.zero_le _, by simp only [List.append_nil]; rfl⟩
      · exact ⟨[], [_], _, Nat.le_refl _, by simp only [List.append_nil]; rfl⟩
  · split
    · exact .inr ⟨_, _, rfl⟩
    · exact .inl ⟨[_], [], _, Nat.zero_le _, by simp only [List.append_nil]; rfl⟩
  · exact .inr ⟨_, _, rfl⟩

/-- R243: the data phase waits for the declared data, or consumes it and routes the packet. -/
theorem dataPhase_cases (p : Pipe) (s : State) :
    ((s.q.get p).length < (s.rtHdr.get p).count.toNat ∧ dataPhase p s = respondAction .pending .none s) ∨
    ((s.rtHdr.get p).count.toNat ≤ (s.q.get p).length ∧
      dataPhase p s =
        routePacket (s.rtHdr.get p) ((s.q.get p).take (s.rtHdr.get p).count.toNat)
          { s with
            q := s.q.set p ((s.q.get p).drop (s.rtHdr.get p).count.toNat), rtHdrValid := s.rtHdrValid.set p false }) := by
  unfold dataPhase queueCount
  simp only [queuePopN_eq]
  split
  · next h => exact .inl ⟨h, rfl⟩
  · next h => exact .inr ⟨Nat.not_lt.1 h, rfl⟩

/-- R242, R246: the header phase waits for nine bytes; stops the pipe on a declared count above 21; or latches the header and goes on
to the data phase. -/
theorem headerPhase_cases (p : Pipe) (s : State) :
    ((s.q.get p).length < 9 ∧ headerPhase p s = respondAction .pending .none s) ∨
    (∃ h, 9 ≤ (s.q.get p).length ∧ h = Header.ofBytes ((s.q.get p).take 9) ∧ 21 < h.count.toNat ∧
      headerPhase p s =
        respondAction .routerErr .none
          { s with
            q := s.q.set p ((s.q.get p).drop 9), rtHdr := s.rtHdr.set p h, rtHdrValid := s.rtHdrValid.set p true,
            rtErr := s.rtErr.set p true, conditions := s.conditions ++ [.routerErr p] }) ∨
    (∃ h, 9 ≤ (s.q.get p).length ∧ h = Header.ofBytes ((s.q.get p).take 9) ∧ h.count.toNat ≤ 21 ∧
      headerPhase p s =
        dataPhase p
          { s with
            q := s.q.set p ((s.q.get p).drop 9), rtHdr := s.rtHdr.set p h,
            rtHdrValid := s.rtHdrValid.set p true }) := by
  unfold headerPhase queueCount
  simp only [queuePopN_eq, Config.hdrLen, Config.maxCmdData]
  split
  · next h => exact .inl ⟨h, rfl⟩
  · next h =>
    split
    · next h' => exact .inr (.inl ⟨_, Nat.not_lt.1 h, rfl, h', rfl⟩)
    · next h' => exact .inr (.inr ⟨_, Nat.not_lt.1 h, rfl, Nat.not_lt.1 h', rfl⟩)

/-- R240: the three ways ROUTE_STEP begins on a pipe. -/
theorem routePipe_cases (p : Pipe) (s : State) :
    (s.rtErr.get p = true ∧ routePipe p s = respondAction .routerErr .none (raiseCond (.routerErr p) s)) ∨
    (s.rtErr.get p = false ∧ s.rtHdrValid.get p = true ∧ routePipe p s = dataPhase p s) ∨
    (s.rtErr.get p = false ∧ s.rtHdrValid.get p = false ∧ routePipe p s = headerPhase p s) := by
  cases he : s.rtErr.get p <;> cases hv : s.rtHdrValid.get p <;> simp [routePipe, he, hv]

/-- ROUTE_STEP past the gate and the operand check (R240). -/
theorem exec_routeStep_of_pipe (pipe : Byte) (p : Pipe) (s : State) (hm : s.mode ≠ .standby) (hp : pipe.toNat = p.num) :
    exec (.routeStep pipe) s = .next (routePipe p s) := by
  simp [exec, execRouteStep, gate_open _ _ s hm, routeStepBody, (Pipe.ofByte?_eq_some pipe p).2 hp]

/-- R242, R243: with a whole packet at the head of the pipe's stream, ROUTE_STEP takes it and gives it to the route decision. -/
theorem exec_routeStep_of_packet (pipe : Byte) (p : Pipe) (h : Header) (data rest : List Byte) (s : State)
    (hm : s.mode ≠ .standby) (hp : pipe.toNat = p.num) (hr : PacketReady p h data rest s) :
    exec (.routeStep pipe) s = .next (routePacket h data (packetTaken p h rest s)) := by
  rw [exec_routeStep_of_pipe pipe p s hm hp]
  obtain ⟨he, hl, hc, ⟨hv, hq⟩ | ⟨hv, hh, hq⟩⟩ := hr
  all_goals
    change data.length = h.count.toNat at hl
    change h.count.toNat ≤ 21 at hc
  · have h5 : ¬ (21 < data.length) := by omega
    rw [List.append_assoc] at hq
    change s.q.get p = h.bytes ++ (data ++ rest) at hq
    simp [routePipe, he, hv, headerPhase, queueCount, hq, Config.hdrLen, Config.maxCmdData, queuePopN_eq, dataPhase, ← hl,
      h5, packetTaken]
  · have hs : s.rtHdr.set p h = s.rtHdr := by rw [← hh]; simp
    simp [routePipe, he, hv, queueCount, hq, queuePopN_eq, dataPhase, ← hl, hh, packetTaken, hs]

end Sys2Proof.Machine
end

