-- ==== Sys2Proof/Laws/Step.lean ====
section
/-! SUPPORT. What one step is, once: the next move performed, and what each move does. -/

namespace Sys2Proof.Machine

/-- A step performs the next move on the state whose agenda lacks it (log 4). -/
theorem step_eq_perform (s : State) : step s = perform (nextMove s) (moved s) := by
  cases h : s.agenda with
  | nil =>
    have hs : moved s = s := by
      have : s.agenda.tail = s.agenda := by rw [h]; rfl
      simp [moved, this]
    rw [step_of_nil s h, hs]
    simp [nextMove, h, perform]
  | cons m rest =>
    rw [step_of_cons s m rest h]
    simp [nextMove, moved, h]

/-- The foreground's step (R76(a)). -/
theorem step_of_foreground (s : State) (h : ForegroundNext s) : step s = foregroundStep (moved s) := by
  rw [step_eq_perform, show nextMove s = .foreground from h]; rfl

/-- The interrupt agent's step (R76(b)). -/
theorem step_of_interrupt (s : State) (h : nextMove s = .interrupt) : step s = interruptStep (moved s) := by
  rw [step_eq_perform, h]; rfl

/-- Everything the foreground's step can do: go on with a waiting command, rest, execute the command of the oldest message, or answer
a message that is none. -/
theorem foregroundStep_cases (s : State) :
    (∃ snd, s.sender = some snd ∧ foregroundStep s = .next (senderLoop snd s)) ∨
    (s.sender = none ∧ s.hostIn = [] ∧ foregroundStep s = .next s) ∨
    (∃ m ms i, s.sender = none ∧ s.hostIn = m :: ms ∧ decodeMessage m = .ok i ∧
      foregroundStep s = exec i { s with hostIn := ms }) ∨
    (∃ m ms e, s.sender = none ∧ s.hostIn = m :: ms ∧ decodeMessage m = .error e ∧
      foregroundStep s = .next (answerMalformed e { s with hostIn := ms })) := by
  cases hs : s.sender with
  | some snd => exact .inl ⟨snd, rfl, by simp [foregroundStep, hs]⟩
  | none =>
    cases hi : s.hostIn with
    | nil => exact .inr (.inl ⟨rfl, rfl, by simp [foregroundStep, hs, hi]⟩)
    | cons m ms =>
      cases hd : decodeMessage m with
      | ok i => exact .inr (.inr (.inl ⟨m, ms, i, rfl, rfl, hd, by simp [foregroundStep, hs, hi, runMessage, hd]⟩))
      | error e => exact .inr (.inr (.inr ⟨m, ms, e, rfl, rfl, hd, by simp [foregroundStep, hs, hi, runMessage, hd]⟩))

/-- Everything the interrupt agent's step can do (R28). -/
theorem interruptStep_cases (s : State) :
    (s.irqEn = true ∧ s.irqPend = true ∧ interruptStep s = exec .irqService s) ∨
    ((s.irqEn = false ∨ s.irqPend = false) ∧ interruptStep s = .next s) := by
  cases he : s.irqEn <;> cases hp : s.irqPend <;> simp [interruptStep, irqEnabled, he, hp]

/-- A run goes on with the state its first step leads to. -/
theorem runs_succ (n : Nat) (s u t : State) (h : step s = .next u) : Runs (n + 1) s t ↔ Runs n u t := by
  simp [Runs, h]

end Sys2Proof.Machine
end

