-- ==== Sys2Proof/Machine/Script.lean ====
section
/-! DEFINITION. The script language of 30_encoding R109 and R110: directives and command lines as moves of the agents, the
pseudo-operations, and the text of a command. "They are conveniences of the test scripts, not operations of the hardware": no step
uses this file. -/

namespace Sys2Proof

/-- The mnemonics of R101. -/
def Instr.mnemonic : Instr → String
  | .init => "INIT"
  | .setChannel _ => "SET_CHANNEL"
  | .setRxAddr _ _ _ => "SET_RX_ADDR"
  | .setTxAddr _ _ => "SET_TX_ADDR"
  | .enablePipes _ => "ENABLE_PIPES"
  | .disablePipes _ => "DISABLE_PIPES"
  | .writePayload _ => "WRITE_PAYLOAD"
  | .resetToRx => "RESET_TO_RX"
  | .dataReady => "DATA_READY"
  | .pipeCount _ => "PIPE_COUNT"
  | .pipeRead _ => "PIPE_READ"
  | .getCksumErr => "GET_CKSUM_ERR"
  | .getResetCnt => "GET_RESET_CNT"
  | .getMode => "GET_MODE"
  | .routeStep _ => "ROUTE_STEP"
  | .checksum _ => "CHECKSUM"
  | .encodeFrame _ => "ENCODE_FRAME"
  | .decodeFrame _ => "DECODE_FRAME"
  | .irqService => "IRQ_SERVICE"

/-- A hexadecimal digit. -/
def hexDigitText (v : BitVec 4) : String :=
  match v.toNat with
  | 10 => "A"
  | 11 => "B"
  | 12 => "C"
  | 13 => "D"
  | 14 => "E"
  | 15 => "F"
  | n => toString n

/-- A byte of a list, two hexadecimal digits as the vectors write it (log 22). -/
def byteText (b : Byte) : String := hexDigitText (b.extractLsb' 4 4) ++ hexDigitText (b.extractLsb' 0 4)

/-- R109: a list of bytes, `[b0 b1 ...]`. -/
def bytesText (data : List Byte) : String := "[" ++ " ".intercalate (data.map byteText) ++ "]"

/-- R109: the operands of a command line, comma separated, numbers in decimal, lists of bytes as in the vectors. -/
def Instr.operandsText : Instr → String
  | .setChannel ch => " " ++ toString ch.toNat
  | .setRxAddr pipe hi32 lo8 => " " ++ toString pipe.toNat ++ ", " ++ toString hi32.toNat ++ ", " ++ toString lo8.toNat
  | .setTxAddr hi32 lo8 => " " ++ toString hi32.toNat ++ ", " ++ toString lo8.toNat
  | .enablePipes mask => " " ++ toString mask.toNat
  | .disablePipes mask => " " ++ toString mask.toNat
  | .writePayload data => " " ++ bytesText data
  | .pipeCount pipe => " " ++ toString pipe.toNat
  | .pipeRead pipe => " " ++ toString pipe.toNat
  | .routeStep pipe => " " ++ toString pipe.toNat
  | .checksum data => " " ++ bytesText data
  | .encodeFrame data => " " ++ bytesText data
  | .decodeFrame frame => " " ++ bytesText frame
  | .init => ""
  | .resetToRx => ""
  | .dataReady => ""
  | .getCksumErr => ""
  | .getResetCnt => ""
  | .getMode => ""
  | .irqService => ""

/-- R109: the line of a command. -/
def Instr.scriptText (i : Instr) : String := i.mnemonic ++ i.operandsText

/-- R110: `SEND_TO hi32, lo8, [..]`. -/
def sendTo (hi32 : Hi32) (lo8 : Byte) (data : List Byte) : List Instr := [.setTxAddr hi32 lo8, .writePayload data]

/-- R110: `ROUTE_ALL`. -/
def routeAll : List Instr := Pipe.list.map fun p => .routeStep (BitVec.ofNat 8 p.num)

/-- R110: `DRAIN p` on a queue of `n` bytes: n reads that answer `OK` and the one that answers `EMPTY`. -/
def drain (pipe : Byte) (n : Nat) : List Instr := List.replicate (n + 1) (.pipeRead pipe)

namespace Machine

/-- R109: the environment directives, and `IRQ_SERVICE` on a line of its own. -/
inductive Directive where
  | reset (u : Unspecified)
  | clock (t : Clock)
  | status (r : StatusRec)
  | rxframe (f : List Byte)
  | irq
  | irqService
deriving DecidableEq, Repr

/-- R109: a directive as moves; `.irq` is a falling edge, so the line is taken high first. -/
def Directive.moves : Directive → List Move
  | .reset u => [.reset u]
  | .clock t => [.clock t []]
  | .status r => [.status r]
  | .rxframe f => [.rxFrame f]
  | .irq => [.irqLine true, .irqLine false]
  | .irqService => [.interrupt]

/-- R109: a line of a script; a command line carries the directives of its `|` lines, one list for each yield. -/
inductive ScriptLine where
  | command (i : Instr) (yields : List (List Directive))
  | directive (d : Directive)
deriving DecidableEq, Repr

/-- R109: a line as moves: the command is submitted and the foreground takes it, and after each yield's directives goes on. -/
def ScriptLine.moves : ScriptLine → List Move
  | .command i yields =>
    .submit (encode i) :: .foreground :: yields.flatMap fun ds => ds.flatMap Directive.moves ++ [.foreground]
  | .directive d => d.moves

/-- A script as moves. -/
def scriptMoves (lines : List ScriptLine) : List Move := lines.flatMap ScriptLine.moves

end Machine

end Sys2Proof
end

