-- ==== Sys2Proof/Machine/ScriptText.lean ====
section
/-! DEFINITION. The text of scripts (30_encoding R109, R110), read line by line: command lines, directives, `|` lines, pseudo-operations
and the expected response after `=>`. A line is a list of characters. No step uses this file (log 22). -/

namespace Sys2Proof.Machine

/-! ## Words and numbers -/

/-- The value of a hexadecimal digit. -/
def hexDigit? (c : Char) : Option Nat :=
  let n := c.toNat
  if 48 ≤ n ∧ n ≤ 57 then some (n - 48)
  else if 65 ≤ n ∧ n ≤ 70 then some (n - 55)
  else if 97 ≤ n ∧ n ≤ 102 then some (n - 87)
  else none

/-- Digits of a base, most significant first, after the value `acc` of the digits before them. -/
def digits? (base : Nat) : List Char → Nat → Option Nat
  | [], acc => some acc
  | c :: cs, acc =>
    match hexDigit? c with
    | some d => if d < base then digits? base cs (base * acc + d) else none
    | none => none

/-- R109: a number "in decimal or `0x` hexadecimal". -/
def number? : List Char → Option Nat
  | [] => none
  | '0' :: 'x' :: c :: cs => digits? 16 (c :: cs) 0
  | c :: cs => digits? 10 (c :: cs) 0

/-- A number that fits w bits. -/
def field? (w : Nat) (word : List Char) : Option (BitVec w) :=
  match number? word with
  | some n => if n < 2 ^ w then some (BitVec.ofNat w n) else none
  | none => none

/-- R109: one byte of a list or of a response, two hexadecimal digits as the vectors write them (log 22). -/
def hexByte? : List Char → Option Byte
  | [a, b] =>
    match hexDigit? a, hexDigit? b with
    | some x, some y => some (BitVec.ofNat 8 (16 * x + y))
    | _, _ => none
  | _ => none

/-- A list of bytes. -/
def hexBytes? : List (List Char) → Option (List Byte)
  | [] => some []
  | w :: ws =>
    match hexByte? w, hexBytes? ws with
    | some b, some bs => some (b :: bs)
    | _, _ => none

/-- The words of a line: blanks separate them, each of the signs `,` `[` `]` `|` is a word of its own, and `;` begins a comment.
`acc` holds the word begun, last character first. -/
def wordsFrom : List Char → List Char → List (List Char)
  | [], acc => if acc.isEmpty then [] else [acc.reverse]
  | c :: cs, acc =>
    let ended : List (List Char) := if acc.isEmpty then [] else [acc.reverse]
    if c = ';' then ended
    else if c = ' ' then ended ++ wordsFrom cs []
    else if c = ',' ∨ c = '[' ∨ c = ']' ∨ c = '|' then ended ++ [c] :: wordsFrom cs []
    else wordsFrom cs (c :: acc)

/-- The words of a line. -/
def lineWords (line : List Char) : List (List Char) := wordsFrom line []

/-- The words of a bracketed list, and the words after it. -/
def bracketed? : List (List Char) → Option (List (List Char) × List (List Char))
  | [] => none
  | w :: ws =>
    if w = [']'] then some ([], ws)
    else match bracketed? ws with
      | some (inside, rest) => some (w :: inside, rest)
      | none => none

/-- A bracketed list of bytes, opened by the first word, and the words after it. -/
def byteList? : List (List Char) → Option (List Byte × List (List Char))
  | ['['] :: ws =>
    match bracketed? ws with
    | some (inside, rest) => (hexBytes? inside).map fun b => (b, rest)
    | none => none
  | _ => none

/-! ## Command lines -/

/-- The mnemonics of R101 as characters. -/
def opMnemonic (o : Op) : List Char :=
  match o with
  | .init => "INIT".toList
  | .setChannel => "SET_CHANNEL".toList
  | .setRxAddr => "SET_RX_ADDR".toList
  | .setTxAddr => "SET_TX_ADDR".toList
  | .enablePipes => "ENABLE_PIPES".toList
  | .disablePipes => "DISABLE_PIPES".toList
  | .writePayload => "WRITE_PAYLOAD".toList
  | .resetToRx => "RESET_TO_RX".toList
  | .dataReady => "DATA_READY".toList
  | .pipeCount => "PIPE_COUNT".toList
  | .pipeRead => "PIPE_READ".toList
  | .getCksumErr => "GET_CKSUM_ERR".toList
  | .getResetCnt => "GET_RESET_CNT".toList
  | .getMode => "GET_MODE".toList
  | .routeStep => "ROUTE_STEP".toList
  | .checksum => "CHECKSUM".toList
  | .encodeFrame => "ENCODE_FRAME".toList
  | .decodeFrame => "DECODE_FRAME".toList

/-- R109: the two commands that `|` lines may follow. -/
def mayYield (i : Instr) : Bool :=
  match i with
  | .writePayload _ => true
  | .routeStep _ => true
  | .init => false
  | .setChannel _ => false
  | .setRxAddr _ _ _ => false
  | .setTxAddr _ _ => false
  | .enablePipes _ => false
  | .disablePipes _ => false
  | .resetToRx => false
  | .dataReady => false
  | .pipeCount _ => false
  | .pipeRead _ => false
  | .getCksumErr => false
  | .getResetCnt => false
  | .getMode => false
  | .checksum _ => false
  | .encodeFrame _ => false
  | .decodeFrame _ => false
  | .irqService => false

/-- The command a mnemonic of R101 names. -/
def opOfMnemonic? (word : List Char) : Option Op := Op.all.find? fun o => opMnemonic o = word

/-- R109: the operands of a command, comma separated, as many as its format has (R102). -/
def operands? (o : Op) (ws : List (List Char)) : Option Instr :=
  match o.format, ws with
  | .h0, [] => (decodeMessage ⟨o.code, []⟩).toOption
  | .h1, [a] => (field? 8 a).bind fun b => (decodeMessage ⟨o.code, [b]⟩).toOption
  | .hra, [a, [','], h, [','], l] =>
    match field? 8 a, field? 32 h, field? 8 l with
    | some pipe, some hi32, some lo8 => some (.setRxAddr pipe hi32 lo8)
    | _, _, _ => none
  | .hta, [h, [','], l] =>
    match field? 32 h, field? 8 l with
    | some hi32, some lo8 => some (.setTxAddr hi32 lo8)
    | _, _ => none
  | .hv, ws =>
    match byteList? ws with
    | some (data, []) => (decodeMessage ⟨o.code, BitVec.ofNat 8 data.length :: data⟩).toOption
    | _ => none
  | .hf, ws =>
    match byteList? ws with
    | some (frame, []) => (decodeMessage ⟨o.code, frame⟩).toOption
    | _ => none
  | _, _ => none

/-! ## Directives -/

/-- A field of `.status`: the name, the sign `=`, a number that fits w bits. -/
def statusField? (name : List Char) (w : Nat) (word : List Char) : Option (BitVec w) :=
  if word.take name.length = name then field? w (word.drop name.length) else none

/-- R109: one directive at the head of some words, and the words after it. `u` is what a hardware reset leaves open (log 3). -/
def directive? (u : Unspecified) : List (List Char) → Option (Directive × List (List Char))
  | ['.', 'r', 'e', 's', 'e', 't'] :: ws => some (.reset u, ws)
  | ['.', 'c', 'l', 'o', 'c', 'k'] :: t :: ws => (field? 16 t).map fun t => (.clock t, ws)
  | ['.', 's', 't', 'a', 't', 'u', 's'] :: a :: b :: c :: d :: ws =>
    match statusField? ['r', 'x', '_', 'd', 'r', '='] 1 a, statusField? ['t', 'x', '_', 'd', 's', '='] 1 b,
        statusField? ['m', 'a', 'x', '_', 'r', 't', '='] 1 c, statusField? ['p', 'i', 'p', 'e', '='] 3 d with
    | some dr, some ds, some rt, some p => some (.status ⟨dr = 1#1, ds = 1#1, rt = 1#1, p⟩, ws)
    | _, _, _, _ => none
  | ['.', 'r', 'x', 'f', 'r', 'a', 'm', 'e'] :: ws =>
    match byteList? ws with
    | some (f, rest) => if f.length = Config.payloadSize then some (.rxframe f, rest) else none
    | none => none
  | ['.', 'i', 'r', 'q'] :: ws => some (.irq, ws)
  | ['I', 'R', 'Q', '_', 'S', 'E', 'R', 'V', 'I', 'C', 'E'] :: ws => some (.irqService, ws)
  | _ => none

/-- Directives one after another, at most n of them. -/
def directives? (u : Unspecified) : Nat → List (List Char) → Option (List Directive)
  | _, [] => some []
  | 0, _ :: _ => none
  | n + 1, w :: ws =>
    match directive? u (w :: ws) with
    | some (d, rest) => (directives? u n rest).map (d :: ·)
    | none => none

/-! ## Lines -/

/-- A line of a script as it is read. -/
inductive ReadLine where
  /-- A line without a word. -/
  | blank
  /-- A command line. -/
  | command (i : Instr)
  /-- A directive on a line of its own. -/
  | directive (d : Directive)
  /-- A `|` line: what happens at one yield of the command before it. -/
  | atYield (ds : List Directive)
  /-- R110: `DRAIN p`. -/
  | drain (pipe : Byte)
  /-- R110: `SEND_TO hi32, lo8, [..]`. -/
  | sendTo (hi32 : Hi32) (lo8 : Byte) (data : List Byte)
  /-- R110: `ROUTE_ALL`. -/
  | routeAll
deriving DecidableEq, Repr

/-- R109, R110: the words of a line without its expected response. -/
def line? (u : Unspecified) : List (List Char) → Option ReadLine
  | [] => some .blank
  | ['|'] :: ws => (directives? u ws.length ws).map .atYield
  | ['D', 'R', 'A', 'I', 'N'] :: ws =>
    match ws with
    | [p] => (field? 8 p).map .drain
    | _ => none
  | ['S', 'E', 'N', 'D', '_', 'T', 'O'] :: ws =>
    match ws with
    | h :: [','] :: l :: [','] :: list =>
      match field? 32 h, field? 8 l, byteList? list with
      | some hi32, some lo8, some (data, []) => if data.length ≤ 255 then some (.sendTo hi32 lo8 data) else none
      | _, _, _ => none
    | _ => none
  | ['R', 'O', 'U', 'T', 'E', '_', 'A', 'L', 'L'] :: ws => if ws.isEmpty then some .routeAll else none
  | w :: ws =>
    match opOfMnemonic? w with
    | some o => (operands? o ws).map .command
    | none =>
      match directive? u (w :: ws) with
      | some (d, []) => some (.directive d)
      | _ => none

/-- R109: "An expected response is written after `=>`": a line with the response it expects, if it names one. -/
def scriptLine? (u : Unspecified) (text : List Char) : Option (ReadLine × Option (List Byte)) :=
  let ws := lineWords text
  let before := ws.takeWhile fun w => w ≠ ['=', '>']
  match ws.dropWhile fun w => w ≠ ['=', '>'] with
  | [] => (line? u before).map fun l => (l, none)
  | _ :: response =>
    match line? u before, hexBytes? response with
    | some l, some r => some (l, some r)
    | _, _ => none

/-! ## Scripts -/

/-- R109, R110: what is read as script lines. The lines are taken last first; `yields` are the `|` lines met since, which belong to the
WRITE_PAYLOAD or ROUTE_STEP line before them. `waiting` is the number of bytes a `DRAIN` finds in its queue. -/
def assembleFrom (waiting : Byte → Nat) : List ReadLine → List (List Directive) → Option (List ScriptLine)
  | [], yields => if yields.isEmpty then some [] else none
  | .blank :: ls, yields => assembleFrom waiting ls yields
  | .atYield ds :: ls, yields => assembleFrom waiting ls (ds :: yields)
  | .command i :: ls, yields =>
    if yields.isEmpty || mayYield i then (assembleFrom waiting ls []).map (· ++ [.command i yields]) else none
  | .directive d :: ls, [] => (assembleFrom waiting ls []).map (· ++ [.directive d])
  | .drain p :: ls, [] =>
    (assembleFrom waiting ls []).map (· ++ (Sys2Proof.drain p (waiting p)).map fun i => .command i [])
  | .sendTo h l data :: ls, yields =>
    (assembleFrom waiting ls []).map (· ++ [.command (.setTxAddr h l) [], .command (.writePayload data) yields])
  | .routeAll :: ls, [] => (assembleFrom waiting ls []).map (· ++ Sys2Proof.routeAll.map fun i => .command i [])
  | .directive _ :: _, _ :: _ => none
  | .drain _ :: _, _ :: _ => none
  | .routeAll :: _, _ :: _ => none

/-- Every line of a script read. -/
def readLines? (u : Unspecified) : List (List Char) → Option (List (ReadLine × Option (List Byte)))
  | [] => some []
  | t :: ts =>
    match scriptLine? u t, readLines? u ts with
    | some l, some ls => some (l :: ls)
    | _, _ => none

/-- A script's text as script lines. -/
def script? (u : Unspecified) (waiting : Byte → Nat) (lines : List (List Char)) : Option (List ScriptLine) :=
  (readLines? u lines).bind fun ls => assembleFrom waiting (ls.map (·.1)).reverse []

/-- The responses a script expects, in order. -/
def expected? (u : Unspecified) (lines : List (List Char)) : Option (List (List Byte)) :=
  (readLines? u lines).map fun ls => ls.filterMap (·.2)

end Sys2Proof.Machine
end

