-- ==== Sys2Proof/Tests/Slice0.lean ====
section
/-! SUPPORT. Tests with expected results from 95_test_vectors.md (V and P numbers) or worked by hand from the rule named, and for
every statement of the obligations that has hypotheses a state and operands that meet them. -/

open Sys2Proof Sys2Proof.Machine

namespace Sys2Proof.Tests

/-! ## Small states -/

/-- After `.reset; INIT` with the test parameters (V50). -/
def ready : State :=
  { State.reset with mode := .receiving, ce := true, irqEn := true, cfgChannel := 2#7, cfgPipeEn := 0x3F#6 }

/-- A transmission in flight since 1000 ms. -/
def sending : State := { ready with mode := .transmitting, txStart := 1000#16, now := 1000#16 }

/-- `s` with bytes queued on a pipe. -/
def queued (p : Pipe) (bytes : List Byte) (s : State) : State := { s with q := s.q.set p bytes }

/-- `s` with a status record and a frame at the radio. -/
def served (r : StatusRec) (f : List Byte) (s : State) : State := { s with radioStatus := r, radioFrame := f }

/-- A part of the next state. -/
def view {α : Type} (f : State → α) : Host.Outcome State Fault Refusal → Option α
  | .next s => some (f s)
  | .fault _ => none
  | .refused _ => none

/-- The trace as bus bytes (R113). -/
def bus (s : State) : List (List Byte) := s.radioTrace.map (RadioOp.busBytes s.params)

/-- The frame of the payload 01 02 03 (section 1 of the vectors). -/
def frame123 : List Byte := [3#8, 1#8, 2#8, 3#8, 0xF6#8] ++ List.replicate 27 0#8

/-- A frame cut to its first bytes, filled with zeros. -/
def frameFrom (bytes : List Byte) : List Byte := bytes ++ List.replicate (32 - bytes.length) 0#8

/-- The header of P4's first packet: D = 000021, S = 000017, cmd = 0001, n = 3. -/
def header1 : Header := ⟨0x00#8, 0x00#8, 0x21#8, 0x00#8, 0x00#8, 0x17#8, 0x00#8, 0x01#8, 0x03#8⟩

/-! ## WellFormed: what it refuses (R102) -/

theorem test_wellformed_write_256 : (Instr.writePayload (List.replicate 256 0#8)).wellFormed = false := by
  simp [Instr.wellFormed, dataFitsHV, -List.reduceReplicate]
theorem test_wellformed_checksum_256 : (Instr.checksum (List.replicate 256 0#8)).wellFormed = false := by
  simp [Instr.wellFormed, dataFitsHV, -List.reduceReplicate]
theorem test_wellformed_encode_256 : (Instr.encodeFrame (List.replicate 256 0#8)).wellFormed = false := by
  simp [Instr.wellFormed, dataFitsHV, -List.reduceReplicate]
theorem test_wellformed_decode_31 : (Instr.decodeFrame (List.replicate 31 0#8)).wellFormed = false := by decide
theorem test_wellformed_decode_33 : (Instr.decodeFrame (List.replicate 33 0#8)).wellFormed = false := by decide
theorem test_wellformed_bounds :
    (Instr.writePayload (List.replicate 255 0#8)).wellFormed = true ∧ (Instr.checksum []).wellFormed = true ∧
      (Instr.decodeFrame (List.replicate 32 0#8)).wellFormed = true ∧ (Instr.setChannel 255#8).wellFormed = true := by
  simp [Instr.wellFormed, dataFitsHV, frameFitsHF, -List.reduceReplicate]

/-! ## Decode: messages written out from R101 to R103 (V30 to V45) -/

theorem test_decode_init : decodeMessage ⟨0x01#8, []⟩ = .ok .init := by decide
theorem test_decode_setChannel : decodeMessage ⟨0x02#8, [0x4C#8]⟩ = .ok (.setChannel 76#8) := by decide
theorem test_decode_setRxAddr :
    decodeMessage ⟨0x03#8, [0x03#8, 0x12#8, 0x34#8, 0x56#8, 0x78#8, 0xC4#8]⟩ =
      .ok (.setRxAddr 3#8 0x12345678#32 0xC4#8) := by decide
theorem test_decode_setTxAddr :
    decodeMessage ⟨0x04#8, [0xF0#8, 0xF1#8, 0xF2#8, 0xF3#8, 0xD2#8]⟩ = .ok (.setTxAddr 0xF0F1F2F3#32 0xD2#8) := by decide
theorem test_decode_enablePipes : decodeMessage ⟨0x05#8, [0x0C#8]⟩ = .ok (.enablePipes 0x0C#8) := by decide
theorem test_decode_disablePipes : decodeMessage ⟨0x06#8, [0x30#8]⟩ = .ok (.disablePipes 0x30#8) := by decide
theorem test_decode_writePayload :
    decodeMessage ⟨0x07#8, [0x03#8, 0x01#8, 0x02#8, 0x03#8]⟩ = .ok (.writePayload [1#8, 2#8, 3#8]) := by decide
theorem test_decode_writePayload_empty : decodeMessage ⟨0x07#8, [0x00#8]⟩ = .ok (.writePayload []) := by decide
theorem test_decode_resetToRx : decodeMessage ⟨0x08#8, []⟩ = .ok .resetToRx := by decide
theorem test_decode_dataReady : decodeMessage ⟨0x09#8, []⟩ = .ok .dataReady := by decide
theorem test_decode_pipeCount : decodeMessage ⟨0x0A#8, [0x02#8]⟩ = .ok (.pipeCount 2#8) := by decide
theorem test_decode_pipeRead : decodeMessage ⟨0x0B#8, [0x02#8]⟩ = .ok (.pipeRead 2#8) := by decide
theorem test_decode_getCksumErr : decodeMessage ⟨0x0C#8, []⟩ = .ok .getCksumErr := by decide
theorem test_decode_getResetCnt : decodeMessage ⟨0x0D#8, []⟩ = .ok .getResetCnt := by decide
theorem test_decode_getMode : decodeMessage ⟨0x0E#8, []⟩ = .ok .getMode := by decide
theorem test_decode_routeStep : decodeMessage ⟨0x0F#8, [0x01#8]⟩ = .ok (.routeStep 1#8) := by decide
theorem test_decode_checksum : decodeMessage ⟨0x10#8, [0x01#8, 0xFF#8]⟩ = .ok (.checksum [0xFF#8]) := by decide
theorem test_decode_encodeFrame : decodeMessage ⟨0x11#8, [0x02#8, 7#8, 8#8]⟩ = .ok (.encodeFrame [7#8, 8#8]) := by decide
theorem test_decode_decodeFrame : decodeMessage ⟨0x12#8, frame123⟩ = .ok (.decodeFrame frame123) := by decide
theorem test_decode_trace_irqService : decodeTrace ⟨0x80#8, []⟩ = .ok .irqService := by decide
theorem test_decode_reserved :
    decodeMessage ⟨0x00#8, []⟩ = .error (.unknownOp 0x00#8) ∧ decodeMessage ⟨0x13#8, []⟩ = .error (.unknownOp 0x13#8) ∧
      decodeMessage ⟨0x7F#8, [1#8]⟩ = .error (.unknownOp 0x7F#8) ∧ decodeMessage ⟨0x80#8, []⟩ = .error (.unknownOp 0x80#8) ∧
      decodeMessage ⟨0xFF#8, []⟩ = .error (.unknownOp 0xFF#8) := by decide
theorem test_decode_malformed :
    decodeMessage ⟨0x02#8, []⟩ = .error (.badLength .setChannel) ∧
      decodeMessage ⟨0x07#8, [3#8, 1#8, 2#8]⟩ = .error (.badLength .writePayload) ∧
      decodeMessage ⟨0x07#8, []⟩ = .error (.badLength .writePayload) ∧
      decodeMessage ⟨0x0A#8, [2#8, 0#8]⟩ = .error (.badLength .pipeCount) ∧
      decodeMessage ⟨0x01#8, [0#8]⟩ = .error (.badLength .init) ∧
      decodeMessage ⟨0x12#8, [0#8]⟩ = .error (.badLength .decodeFrame) := by decide

/-- The rows of the opcode table, by their codes (R101). -/
theorem test_table_words :
    (List.range 0x13).map (decodeTableWord 8) =
      [none, some .init, some (.setChannel 0#8), some (.setRxAddr 0#8 0#32 0#8), some (.setTxAddr 0#32 0#8),
       some (.enablePipes 0#8), some (.disablePipes 0#8), some (.writePayload []), some .resetToRx, some .dataReady,
       some (.pipeCount 0#8), some (.pipeRead 0#8), some .getCksumErr, some .getResetCnt, some .getMode,
       some (.routeStep 0#8), some (.checksum []), some (.encodeFrame []),
       some (.decodeFrame (List.replicate 32 0#8))] ∧
    decodeTableWord 8 0x80 = some .irqService ∧ decodeTableWord 8 0x13 = none ∧ decodeTableWord 16 0x4C02 = some (.setChannel 76#8)
      := by decide

/-! ## The host port (V41 to V49) -/

/-- The responses of the next step on a message. -/
def answer (op : Byte) (rest : List Byte) (s : State) : Option (List (List Byte)) :=
  view State.hostOut (step { s with hostIn := [⟨op, rest⟩] })

theorem test_host_reserved : answer 0x13#8 [] ready = some [[0xFF#8]] ∧ answer 0x80#8 [] ready = some [[0xFF#8]] := by decide
theorem test_host_malformed :
    answer 0x02#8 [] ready = some [[0x01#8]] ∧ answer 0x07#8 [3#8, 1#8, 2#8] ready = some [[0x01#8, 0x00#8]] ∧
      answer 0x0A#8 [2#8, 0#8] ready = some [[0x01#8, 0#8, 0#8]] := by decide
theorem test_host_gate :
    answer 0x02#8 [0x4C#8] State.reset = some [[0x03#8]] ∧ answer 0x07#8 [0#8] State.reset = some [[0x03#8, 0#8]] ∧
      answer 0x0F#8 [9#8] State.reset = some [[0x03#8, 0#8, 0#8]] := by decide
theorem test_host_ungated :
    answer 0x0E#8 [] State.reset = some [[0#8, 0#8]] ∧ answer 0x0C#8 [] State.reset = some [[0#8, 0#8, 0#8]] ∧
      answer 0x0A#8 [0#8] State.reset = some [[0#8, 0#8, 0#8]] ∧ answer 0x0B#8 [0#8] State.reset = some [[4#8, 0#8]] ∧
      answer 0x10#8 [0#8] State.reset = some [[0#8, 0xFF#8]] := by decide
theorem test_step_runs_fetch_word :
    view State.mode (step (State.reset.withFetchWord 8 0x01)) = some .receiving ∧
      view State.radioTrace (step (State.reset.withFetchWord 8 0x80)) = some [.readStatus] ∧
      view State.cfgChannel (step (ready.withFetchWord 16 0x4C02)) = some 76#7 := by decide

/-! ## Mode control (V50 to V67) -/

theorem test_init_trace :
    view bus (exec .init State.reset) = some
      [[], [0x25#8, 0x02#8], [0x31#8, 0x20#8], [0x32#8, 0x20#8], [0x33#8, 0x20#8], [0x34#8, 0x20#8], [0x35#8, 0x20#8],
       [0x36#8, 0x20#8], [0x22#8, 0x3F#8], [0xE1#8], [0xE2#8], [0x27#8, 0x70#8], [0x20#8, 0x0B#8], []] := by decide
theorem test_init_state :
    view (fun t => (t.mode, t.ce, t.irqEn, t.cfgChannel, t.cfgPipeEn)) (exec .init State.reset) =
      some (.receiving, true, true, 2#7, 0x3F#6) := by decide
theorem test_setChannel_125 :
    view (fun t => (t.cfgChannel, bus t, t.hostOut)) (exec (.setChannel 125#8) ready) =
      some (125#7, [[0x25#8, 0x7D#8]], [[0#8]]) := by decide
theorem test_setChannel_126 :
    view (fun t => (t.cfgChannel, bus t, t.hostOut)) (exec (.setChannel 126#8) ready) = some (2#7, [], [[1#8]]) := by decide
theorem test_setRxAddr_pipe1 :
    view (fun t => (t.cfgRxHi1, t.cfgRxLo.p1, bus t)) (exec (.setRxAddr 1#8 0x12345678#32 0x9A#8) ready) =
      some (0x12345678#32, 0x9A#8, [[0x2B#8, 0x9A#8, 0x78#8, 0x56#8, 0x34#8, 0x12#8]]) := by decide
theorem test_setRxAddr_pipe2 :
    view (fun t => (t.cfgRxHi1, t.cfgRxLo.p2, bus t)) (exec (.setRxAddr 2#8 0xDEADBEEF#32 0xC3#8) ready) =
      some (0#32, 0xC3#8, [[0x2C#8, 0xC3#8]]) := by decide
theorem test_setTxAddr :
    view (fun t => (t.cfgTxHi, t.cfgTxLo, bus t)) (exec (.setTxAddr 0x12345678#32 0x9A#8) ready) =
      some (0x12345678#32, 0x9A#8, [[0x30#8, 0x9A#8, 0x78#8, 0x56#8, 0x34#8, 0x12#8]]) := by decide
theorem test_enablePipes :
    view (fun t => (t.cfgPipeEn, bus t)) (exec (.enablePipes 0x10#8) { ready with cfgPipeEn := 0x0F#6 }) =
      some (0x1F#6, [[0x22#8, 0x1F#8]]) := by decide
theorem test_enablePipes_40 :
    view (fun t => (t.cfgPipeEn, bus t, t.hostOut)) (exec (.enablePipes 0x40#8) ready) = some (0x3F#6, [], [[1#8]]) := by decide
theorem test_disablePipes :
    view (fun t => (t.cfgPipeEn, bus t)) (exec (.disablePipes 0x30#8) ready) = some (0x0F#6, [[0x22#8, 0x0F#8]]) := by decide
theorem test_disablePipes_FF : view State.hostOut (exec (.disablePipes 0xFF#8) ready) = some [[1#8]] := by decide
theorem test_getMode : view State.hostOut (exec .getMode ready) = some [[0#8, 1#8]] := by decide

/-! ## Codec (V1 to V25) -/

theorem test_checksum : checksumOf [1#8, 2#8, 3#8] = 0xF6#8 ∧ checksumOf [0xFF#8] = 0xFF#8 ∧ checksumOf [0xE1#8] = 0x1D#8 := by decide
theorem test_checksum_30 : checksumOf (List.replicate 30 0xFF#8) = 0xFF#8 ∧ checksumOf (List.replicate 30 0#8) = 0xE1#8 := by decide
theorem test_encodeFrame : view State.hostOut (exec (.encodeFrame [1#8, 2#8, 3#8]) State.reset) = some [0#8 :: frame123] := by decide
theorem test_encodeFrame_31 :
    view State.hostOut (exec (.encodeFrame (List.replicate 31 0#8)) State.reset) = some [1#8 :: List.replicate 32 0#8] := by decide
theorem test_decodeFrame :
    view State.hostOut (exec (.decodeFrame frame123) State.reset) = some [[0#8, 1#8, 3#8, 1#8, 2#8, 3#8]] := by decide
theorem test_decodeFrame_31 :
    view State.hostOut (exec (.decodeFrame (frameFrom [0x1F#8])) State.reset) = some [[0#8, 0#8, 0x1F#8]] := by decide

/-! ## Sender and watchdog (V70 to V81) -/

theorem test_frameCount :
    [0, 1, 29, 30, 31, 59, 60, 61, 90, 255].map frameCount = [1, 1, 1, 1, 2, 2, 2, 3, 3, 9] := by decide
theorem test_expired :
    expired Params.test 1100#16 1000#16 = false ∧ expired Params.test 1101#16 1000#16 = true ∧
      expired Params.test 64#16 65500#16 = false ∧ expired Params.test 65#16 65500#16 = true ∧
      expired Params.test 999#16 1000#16 = true := by decide
theorem test_writePayload :
    view (fun t => (t.mode, t.txStart, bus t, t.hostOut)) (exec (.writePayload [1#8, 2#8, 3#8]) { ready with now := 1000#16 }) =
      some (.transmitting, 1000#16, [[], [0x20#8, 0x0A#8], [0xE1#8], 0xA0#8 :: frame123, []], [[0#8, 1#8]]) := by decide
theorem test_writePayload_waits :
    view (fun t => (t.sender.map Sender.tWait, t.hostOut)) (exec (.writePayload [4#8]) sending) = some (some 1000#16, []) := by decide
theorem test_resetToRx :
    view (fun t => (t.cntReset, bus t, t.hostOut)) (exec .resetToRx ready) =
      some (1, [[0x27#8, 0x70#8], [], [0x20#8, 0x0B#8], []], [[0#8]]) := by decide

/-! ## Demultiplexer (V90 to V115) -/

theorem test_irq_completion_first :
    view (fun t => (t.mode, t.q.p2, bus t)) (exec .irqService (served ⟨true, true, false, 2#3⟩ frame123 sending)) =
      some (.receiving, [], [[0xFF#8], [], [0x20#8, 0x0B#8], [], [0x27#8, 0x70#8]]) := by decide
theorem test_irq_receive :
    view (fun t => (t.mode, t.q.p2, t.radioTrace)) (exec .irqService (served ⟨true, false, false, 2#3⟩ frame123 sending)) =
      some (.transmitting, [1#8, 2#8, 3#8], [.readStatus, .readRxPayload, .flushRx, .clearFlags true false false]) := by decide
theorem test_dataReady_not_stale :
    view (fun t => (t.mode, t.hostOut)) (exec .dataReady { sending with now := 1100#16 }) =
      some (.transmitting, [[0#8, 0#8]]) := by decide
theorem test_dataReady_stale :
    view (fun t => (t.mode, t.cntReset, bus t, t.hostOut)) (exec .dataReady { sending with now := 1101#16 }) =
      some (.receiving, 1, [[0x27#8, 0x70#8], [], [0x20#8, 0x0B#8], []], [[0#8, 0#8]]) := by decide
theorem test_pipeCount : view State.hostOut (exec (.pipeCount 2#8) (queued .p2 [1#8, 2#8, 3#8] ready)) = some [[0#8, 0#8, 3#8]] := by decide
theorem test_pipeRead :
    view (fun t => (t.q.p2, t.hostOut)) (exec (.pipeRead 2#8) (queued .p2 [1#8, 2#8] ready)) = some ([2#8], [[0#8, 1#8]]) := by decide
theorem test_pipeRead_empty : view State.hostOut (exec (.pipeRead 2#8) ready) = some [[4#8, 0#8]] := by decide
theorem test_getCksumErr : view State.hostOut (exec .getCksumErr { ready with cntCksumErr := 258 }) = some [[0#8, 1#8, 2#8]] := by decide
theorem test_getResetCnt : view State.hostOut (exec .getResetCnt { ready with cntReset := 258 }) = some [[0#8, 1#8, 2#8]] := by decide

/-! ## Router (R248, V120 to V127, P4) -/

/-- R248's table, but for case 3. -/
theorem test_route_decision :
    [0x000021#24, 0x000025#24, 0x010021#24, 0x000007#24, 0x00000F#24, 0x000000#24, 0x000031#24, 0x0000F1#24].map
      (fun d => routeDecision Params.test d 0x000021#24) =
      [.here, .up, .up, .down .c2, .down .c3, .up, .up, .up] := by decide
theorem test_route_decision_other_nodes :
    routeDecision Params.test 0x0000F3#24 0x000001#24 = .up ∧ routeDecision Params.test 0x0000F3#24 0x000011#24 = .up ∧
      routeDecision Params.test 0x0000DA#24 0x0000F1#24 = .down .c2 ∧ routeDecision Params.test 0x0000C1#24 0x0000F1#24 = .up := by decide
theorem test_routeStep_local :
    view (fun t => (t.dispatchOut, t.hostOut, t.q.p1))
      (exec (.routeStep 1#8) (queued .p1 (header1.bytes ++ [0xAA#8, 0xBB#8, 0xCC#8]) ready)) =
      some ([⟨0, 0x000017#24, 0x0001#16, 3#8, [0xAA#8, 0xBB#8, 0xCC#8]⟩], [[0#8, 1#8, 0#8]], []) := by decide
theorem test_routeStep_forward_down :
    view (fun t => (t.hostOut, t.cfgTxLo, (bus t).take 1))
      (exec (.routeStep 4#8) (queued .p4 [0#8, 0#8, 7#8, 0#8, 0#8, 0x31#8, 0#8, 2#8, 0#8] ready)) =
      some ([[0#8, 3#8, 2#8]], 0xC2#8, [[0x30#8, 0xC2#8, 0xF0#8, 0xF0#8, 0xF0#8, 0xF0#8]]) := by decide

/-! ## The script language (V130 to V132) -/

theorem test_send_to :
    (sendTo 0xF0F0F0F0#32 0xD2#8 [1#8, 2#8, 3#8]).map encode =
      [⟨0x04#8, [0xF0#8, 0xF0#8, 0xF0#8, 0xF0#8, 0xD2#8]⟩, ⟨0x07#8, [3#8, 1#8, 2#8, 3#8]⟩] := by decide
theorem test_route_all :
    routeAll.map encode =
      [⟨0x0F#8, [0#8]⟩, ⟨0x0F#8, [1#8]⟩, ⟨0x0F#8, [2#8]⟩, ⟨0x0F#8, [3#8]⟩, ⟨0x0F#8, [4#8]⟩, ⟨0x0F#8, [5#8]⟩] := by decide

/-- A line's command as message bytes, and the response it expects. -/
def readMessage (line : String) : Option (Message × Option (List Byte)) :=
  match scriptLine? Unspecified.zero line.toList with
  | some (.command i, r) => some (encode i, r)
  | _ => none

/-- V31, V33, V35. -/
theorem test_script_numbers :
    readMessage "SET_CHANNEL 76" = some (⟨0x02#8, [0x4C#8]⟩, none) ∧
      readMessage "SET_RX_ADDR 3, 0x12345678, 0xC4" =
        some (⟨0x03#8, [0x03#8, 0x12#8, 0x34#8, 0x56#8, 0x78#8, 0xC4#8]⟩, none) ∧
      readMessage "ENABLE_PIPES 0x0C => 00 ; a comment" = some (⟨0x05#8, [0x0C#8]⟩, some [0#8]) := by decide
/-- V37, V38, V6; a channel that fits no byte and a frame of 31 bytes are no lines. -/
theorem test_script_lists :
    readMessage "WRITE_PAYLOAD [01 02 03]" = some (⟨0x07#8, [3#8, 1#8, 2#8, 3#8]⟩, none) ∧
      readMessage "WRITE_PAYLOAD []" = some (⟨0x07#8, [0#8]⟩, none) ∧
      readMessage "CHECKSUM [E1] => 00 1D" = some (⟨0x10#8, [1#8, 0xE1#8]⟩, some [0#8, 0x1D#8]) ∧
      readMessage "SET_CHANNEL 256" = none ∧ readMessage "DECODE_FRAME [00]" = none := by decide
theorem test_script_directives :
    (scriptLine? Unspecified.zero ".status rx_dr=1 tx_ds=0 max_rt=0 pipe=2".toList).map (·.1) =
        some (.directive (.status ⟨true, false, false, 2#3⟩)) ∧
      (scriptLine? Unspecified.zero "| .clock 65535 .irq IRQ_SERVICE".toList).map (·.1) =
        some (.atYield [.clock 65535#16, .irq, .irqService]) := by decide
/-- V81's shape: the `|` line belongs to the write before it. -/
theorem test_script_yield :
    script? Unspecified.zero (fun _ => 0)
        ["WRITE_PAYLOAD [04]".toList, "| .irq".toList, "| IRQ_SERVICE".toList, "GET_MODE".toList] =
      some [.command (.writePayload [4#8]) [[.irq], [.irqService]], .command .getMode []] := by decide
/-- V130. -/
theorem test_script_drain :
    script? Unspecified.zero (fun _ => 3) ["DRAIN 2".toList] =
      some (List.replicate 4 (.command (.pipeRead 2#8) [])) := by decide
theorem test_script_printed : (Instr.writePayload [1#8, 0xE1#8]).scriptText = "WRITE_PAYLOAD [01 E1]" := by decide

/-! ## Witnesses: for every statement with hypotheses, a state and operands that meet them, at the bounds of its clauses -/

/-- A write of 31 bytes that waits to send its second frame. -/
def waiting31 : Sender :=
  { data := List.replicate 31 7#8, len := 31#8, k := 1, sent := 1#8, tWait := 1000#16, reply := .write }

/-- A command waits while the transmission is in flight. -/
def waitingState : State := { sending with sender := some waiting31 }

/-- The parent's route: a packet for another node of this depth. -/
def headerUp : Header := ⟨0x00#8, 0x00#8, 0x25#8, 0x00#8, 0x00#8, 0x17#8, 0x00#8, 0x09#8, 0x02#8⟩

/-- A grandchild's route (R248: 0x000007 goes DOWN to child 2), the largest legal packet (R258(d)). -/
def headerDown : Header := ⟨0x00#8, 0x00#8, 0x07#8, 0x00#8, 0x00#8, 0x17#8, 0x00#8, 0x09#8, 21#8⟩

/-- A packet for this node with a command the table does not have. -/
def headerUnknown : Header := ⟨0x00#8, 0x00#8, 0x21#8, 0x00#8, 0x00#8, 0x17#8, 0x00#8, 0x07#8, 0x00#8⟩

/-- A packet for this node whose declared count is not the table's. -/
def headerBadCount : Header := ⟨0x00#8, 0x00#8, 0x21#8, 0x00#8, 0x00#8, 0x17#8, 0x00#8, 0x01#8, 0x00#8⟩

/-- A declared count of 22 (P4). -/
def headerTooLong : Header := ⟨0x00#8, 0x00#8, 0x21#8, 0x00#8, 0x00#8, 0x17#8, 0x00#8, 0x01#8, 22#8⟩

/-- A queue that holds a whole packet makes it ready. -/
theorem packetReady_of_queue (p : Pipe) (h : Header) (data rest : List Byte) (s : State) (hl : data.length = h.count.toNat)
    (hc : h.count.toNat ≤ 21) (he : s.rtErr.get p = false) (hv : s.rtHdrValid.get p = false) :
    PacketReady p h data rest (queued p (h.bytes ++ data ++ rest) s) :=
  ⟨he, hl, hc, .inl ⟨hv, by simp [queued, Header.bytes]⟩⟩

/-- R11's test values are in its ranges. -/
theorem testParams_inRange : Params.test.InRange :=
  ⟨by decide, by decide, by decide, by decide, by decide, by decide, by simp [Params.test]⟩

/-- `ready` and `sending` satisfy the invariant. -/
theorem ready_invariant : MachineInvariant ready where
  params := testParams_inRange
  queues := fun p => by cases p <;> decide
  counters := ⟨Nat.zero_le _, Nat.zero_le _⟩
  standby := fun h => by cases h
  active := fun _ => ⟨rfl, rfl⟩
  channel := fun _ => by decide
  pending := fun h => by cases h
  latches := fun p => by cases p <;> decide
  sender := fun snd h => by cases h

theorem sending_invariant : MachineInvariant sending where
  params := testParams_inRange
  queues := fun p => by cases p <;> decide
  counters := ⟨Nat.zero_le _, Nat.zero_le _⟩
  standby := fun h => by cases h
  active := fun _ => ⟨rfl, rfl⟩
  channel := fun _ => by decide
  pending := fun h => by cases h
  latches := fun p => by cases p <;> decide
  sender := fun snd h => by cases h

theorem reset_invariant : MachineInvariant State.reset where
  params := testParams_inRange
  queues := fun p => by cases p <;> decide
  counters := ⟨Nat.zero_le _, Nat.zero_le _⟩
  standby := fun _ => ⟨rfl, rfl, rfl⟩
  active := fun h => absurd rfl h
  channel := fun h => absurd rfl h
  pending := fun _ => rfl
  latches := fun p => by cases p <;> decide
  sender := fun snd h => by cases h

theorem witness_DecodeOfEncodeIsTheInstruction :
    (Instr.writePayload (List.replicate 255 9#8)).wellFormed = true ∧ (Instr.checksum []).wellFormed = true ∧
      (Instr.encodeFrame [1#8]).wellFormed = true ∧ (Instr.decodeFrame (List.replicate 32 0#8)).wellFormed = true ∧
      Instr.irqService.wellFormed = true ∧ Instr.init ≠ .irqService := by
  simp [Instr.wellFormed, dataFitsHV, frameFitsHF, -List.reduceReplicate]

theorem witness_EncodeOfDecodeIsTheMessage :
    decodeMessage ⟨0x07#8, [0x00#8]⟩ = .ok (.writePayload []) ∧ decodeMessage ⟨0x12#8, frame123⟩ = .ok (.decodeFrame frame123) := by
  decide

/-- The codes at the ends of the reserved ranges, and the three kinds of wrong length. -/
theorem witness_ReservedAndMalformedMessagesAnswered :
    ForegroundNext ready ∧ ready.sender = none ∧
      (∀ b : Byte, b = 0x00#8 ∨ b = 0x13#8 ∨ b = 0x80#8 ∨ b = 0xFF#8 →
        ∃ s : State, s.hostIn = [⟨b, []⟩] ∧ ForegroundNext s ∧ s.sender = none ∧ (b = 0x00#8 ∨ 0x13#8 ≤ b)) ∧
      Op.ofCode? 0x07#8 = some .writePayload ∧ [3#8, 1#8].length ≠ operandLength Op.writePayload.format [3#8, 1#8] ∧
      Op.ofCode? 0x12#8 = some .decodeFrame ∧ (frame123 ++ [0#8]).length ≠ operandLength Op.decodeFrame.format (frame123 ++ [0#8]) := by
  refine ⟨rfl, rfl, fun b hb => ⟨{ ready with hostIn := [⟨b, []⟩] }, rfl, rfl, rfl, ?_⟩, by decide, by decide, by decide, by decide⟩
  rcases hb with rfl | rfl | rfl | rfl <;> decide

/-- The three ways of the foreground, the interrupt agent, and each move of the environment. -/
theorem witness_StepRunsTheDecodedInstruction :
    (∃ s m ms i, ForegroundNext s ∧ s.sender = none ∧ s.hostIn = m :: ms ∧ decodeMessage m = .ok i) ∧
      (∃ s snd, ForegroundNext s ∧ s.sender = some snd) ∧
      (ForegroundNext ready ∧ ready.sender = none ∧ ready.hostIn = []) ∧
      (∃ s, nextMove s = .interrupt ∧ s.irqEn = true ∧ s.irqPend = true) ∧
      ∀ move, move = .submit ⟨0x0E#8, []⟩ ∨ move = .clock 7#16 [] ∨ move = .status ⟨true, false, false, 2#3⟩ ∨
        move = .rxFrame frame123 → ∃ s, nextMove s = move :=
  ⟨⟨{ ready with hostIn := [⟨0x0E#8, []⟩] }, ⟨0x0E#8, []⟩, [], .getMode, rfl, rfl, rfl, by decide⟩,
    ⟨waitingState, waiting31, rfl, rfl⟩, ⟨rfl, rfl, rfl⟩, ⟨{ ready with irqPend := true, agenda := [.interrupt] }, rfl, rfl, rfl⟩,
    fun move _ => ⟨{ ready with agenda := [move] }, rfl⟩⟩

theorem witness_GateRefusesInStandby :
    (∀ o : Op, o ∈ gatedOps → ∃ i : Instr, Instr.op? i = some o ∧ State.reset.mode = .standby) ∧
      (∀ i : Instr, i = .init ∨ i = .pipeRead 9#8 ∨ i = .encodeFrame (List.replicate 31 0#8) ∨ i = .getMode →
        (∀ o, Instr.op? i = some o → o ∉ gatedOps) ∧
          ∃ (t : State) (r : List Byte), exec i State.reset = .next t ∧ t.hostOut = State.reset.hostOut ++ [r]) := by
  constructor
  · intro o ho
    simp only [gatedOps, List.mem_cons, List.not_mem_nil, or_false] at ho
    rcases ho with rfl | rfl | rfl | rfl | rfl | rfl | rfl | rfl | rfl
    · exact ⟨.setChannel 126#8, rfl, rfl⟩
    · exact ⟨.setRxAddr 6#8 0#32 0#8, rfl, rfl⟩
    · exact ⟨.setTxAddr 0#32 0#8, rfl, rfl⟩
    · exact ⟨.enablePipes 0x40#8, rfl, rfl⟩
    · exact ⟨.disablePipes 0x40#8, rfl, rfl⟩
    · exact ⟨.writePayload [], rfl, rfl⟩
    · exact ⟨.resetToRx, rfl, rfl⟩
    · exact ⟨.dataReady, rfl, rfl⟩
    · exact ⟨.routeStep 6#8, rfl, rfl⟩
  · rintro i (rfl | rfl | rfl | rfl)
    · exact ⟨fun o h => by cases h; decide, _, _, rfl, rfl⟩
    · exact ⟨fun o h => by cases h; decide, _, _, rfl, rfl⟩
    · exact ⟨fun o h => by cases h; decide, _, _, rfl, rfl⟩
    · exact ⟨fun o h => by cases h; decide, _, _, rfl, rfl⟩

theorem ready_not_reset : ¬ ResetNext ready := fun ⟨_, h⟩ => by cases h

/-- A foreground step, and an environment step. -/
theorem witness_EveryMessageGetsOneResponse :
    (∃ s t, step s = .next t ∧ ¬ ResetNext s ∧ ForegroundNext s ∧ s.hostIn ≠ []) ∧
      (∃ s t, step s = .next t ∧ ¬ ResetNext s ∧ ¬ ForegroundNext s) :=
  ⟨⟨{ ready with hostIn := [⟨0x0E#8, []⟩] }, _, rfl, (fun ⟨_, h⟩ => by cases h), rfl, by simp⟩,
    ⟨{ ready with agenda := [.irqLine false] }, _, rfl, (fun ⟨_, h⟩ => by cases h), fun h => by cases h⟩⟩

/-- The three modes. -/
theorem witness_modes : State.reset.mode = .standby ∧ ready.mode = .receiving ∧ ready.mode ≠ .standby ∧
    sending.mode = .transmitting ∧ sending.mode ≠ .standby := by decide

theorem witness_SetChannelResult :
    State.reset.mode = .standby ∧ ready.mode ≠ .standby ∧ sending.mode ≠ .standby ∧ 125 < (126#8 : Byte).toNat ∧
      125 < (255#8 : Byte).toNat ∧ (125#8 : Byte).toNat ≤ 125 ∧ (0#8 : Byte).toNat ≤ 125 := by decide

theorem witness_SetRxAddrResult :
    State.reset.mode = .standby ∧ ready.mode ≠ .standby ∧ 6 ≤ (6#8 : Byte).toNat ∧ 6 ≤ (255#8 : Byte).toNat ∧
      (2#8 : Byte).toNat = Pipe.p2.num ∧ 2 ≤ Pipe.p2.num ∧ (5#8 : Byte).toNat = Pipe.p5.num ∧ 2 ≤ Pipe.p5.num := by decide

theorem witness_PipeOneMovesTheSharedUpperBytes : ready.mode ≠ .standby ∧ 2 ≤ Pipe.p2.num ∧ 2 ≤ Pipe.p5.num := by decide

theorem witness_SetTxAddrResult : State.reset.mode = .standby ∧ ready.mode ≠ .standby ∧ sending.mode ≠ .standby := by decide

theorem witness_PipeMaskResults :
    State.reset.mode = .standby ∧ ready.mode ≠ .standby ∧ 0x3F < (0x40#8 : Byte).toNat ∧ 0x3F < (0xFF#8 : Byte).toNat ∧
      (0x3F#8 : Byte).toNat ≤ 0x3F ∧ (0#8 : Byte).toNat ≤ 0x3F := by decide

theorem witness_GetModeResult : State.reset.mode = .standby ∧ ready.mode = .receiving ∧ sending.mode = .transmitting := by decide

theorem witness_ChecksumResult : ([] : List Byte).length ≤ 255 ∧ (List.replicate 255 1#8).length ≤ 255 := by
  refine ⟨by decide, ?_⟩; rw [List.length_replicate]

theorem witness_EncodeFrameResult :
    30 < (List.replicate 31 1#8).length ∧ (List.replicate 255 1#8).length ≤ 255 ∧ (List.replicate 30 1#8).length ≤ 30 ∧
      ([] : List Byte).length ≤ 30 ∧ 30 + 2 ≤ 32 ∧ 0 + 2 ≤ 31 := by
  refine ⟨by decide, ?_, by decide, by decide, by decide, by decide⟩; rw [List.length_replicate]

/-- Length bytes 31 and 255, 30 and 0; a stored checksum that matches and one that does not. -/
theorem witness_DecodeFrameResult :
    (frameFrom [31#8]).length = 32 ∧ (frameFrom [31#8])[0]? = some 31#8 ∧ 30 < (31#8 : Byte).toNat ∧
      (frameFrom [0xFF#8])[0]? = some 0xFF#8 ∧ 30 < (0xFF#8 : Byte).toNat ∧
      (frameFrom [30#8]).length = 32 ∧ (frameFrom [30#8])[0]? = some 30#8 ∧ (30#8 : Byte).toNat ≤ 30 ∧
      (frameFrom [30#8])[31]? = some 0#8 ∧ frame123.length = 32 ∧ frame123[0]? = some 3#8 ∧ (3#8 : Byte).toNat ≤ 30 ∧
      frame123[4]? = some 0xF6#8 := by decide

theorem witness_FrameRoundTrip :
    encodeFrameOf [1#8, 2#8, 3#8] = some frame123 ∧ encodeFrameOf [] = some (frameFrom [0#8, 0xFF#8]) := by decide

/-- A bit of the first payload byte and of the checksum byte. -/
theorem witness_PayloadBitFlipIsDetected :
    encodeFrameOf [1#8, 2#8, 3#8] = some frame123 ∧ 1 ≤ [1#8, 2#8, 3#8].length + 1 ∧ 4 ≤ [1#8, 2#8, 3#8].length + 1 ∧ 7 < 8 := by
  decide

theorem witness_WriteSendsOneFrame :
    ready.mode = .receiving ∧ encodeFrameOf [1#8, 2#8, 3#8] = some frame123 ∧
      encodeFrameOf [] = some (frameFrom [0#8, 0xFF#8]) := by decide

/-- A clock that stands, and one that jumps by 101 ms between the two samples of the second wait. -/
theorem witness_LongWriteSendsFirstFrameAndWaits :
    ∃ (d f : List Byte), ready.mode = .receiving ∧ 30 < d.length ∧ d.length ≤ 255 ∧ encodeFrameOf (d.take 30) = some f ∧
      (sample 3 ready - sample 2 ready).toNat ≤ ready.params.txTimeoutMs.toNat ∧
      (∃ s : State, s.mode = .receiving ∧ s.params.txTimeoutMs.toNat < (sample 3 s - sample 2 s).toNat) := by
  refine ⟨List.replicate 31 0#8, frameOf (List.replicate 30 0#8), rfl, by decide, by decide, by decide, by decide, ?_⟩
  exact ⟨{ ready with nowNext := [0#16, 0#16, 101#16] }, rfl, by decide⟩

/-- At exactly the timeout, and one past it. -/
theorem witness_WriteInTransmittingWaits :
    (∃ s : State, s.mode = .transmitting ∧ (sample 1 s - sample 0 s).toNat = s.params.txTimeoutMs.toNat) ∧
      (∃ s : State, s.mode = .transmitting ∧ s.params.txTimeoutMs.toNat + 1 = (sample 1 s - sample 0 s).toNat) :=
  ⟨⟨{ sending with nowNext := [1100#16] }, rfl, by decide⟩, ⟨{ sending with nowNext := [1101#16] }, rfl, by decide⟩⟩

/-- The five ways: waiting at the timeout, one past it, the last frame, a frame before it, and that one with a jump of the clock. -/
theorem witness_WaitingCommandGoesOn :
    (∃ s : State, ForegroundNext s ∧ s.sender = some waiting31 ∧ s.mode = .transmitting ∧
      (s.now - waiting31.tWait).toNat = s.params.txTimeoutMs.toNat) ∧
    (∃ s : State, ForegroundNext s ∧ s.sender = some waiting31 ∧ s.mode = .transmitting ∧
      s.params.txTimeoutMs.toNat < (s.now - waiting31.tWait).toNat ∧ waiting31.reply = .write) ∧
    (∃ s : State, ForegroundNext s ∧ s.sender = some waiting31 ∧ s.mode ≠ .transmitting ∧
      waiting31.k + 1 = frameCount waiting31.len.toNat) ∧
    (∃ (s : State) (snd : Sender), ForegroundNext s ∧ s.sender = some snd ∧ s.mode ≠ .transmitting ∧
      snd.k + 1 < frameCount snd.len.toNat ∧ (sample 2 s - sample 1 s).toNat ≤ s.params.txTimeoutMs.toNat) ∧
    (∃ (s : State) (snd : Sender), ForegroundNext s ∧ s.sender = some snd ∧ s.mode ≠ .transmitting ∧
      snd.k + 1 < frameCount snd.len.toNat ∧ s.params.txTimeoutMs.toNat < (sample 2 s - sample 1 s).toNat) ∧
    (∃ (s : State) (snd : Sender), ForegroundNext s ∧ s.sender = some snd ∧ snd.reply = .fwdUp ∧ s.mode ≠ .transmitting ∧
      snd.k + 1 = frameCount snd.len.toNat) ∧
    (∃ (s : State) (snd : Sender), ForegroundNext s ∧ s.sender = some snd ∧ snd.reply = .fwdDown .c2 ∧
      s.mode = .transmitting ∧ s.params.txTimeoutMs.toNat < (s.now - snd.tWait).toNat) :=
  ⟨⟨{ waitingState with now := 1100#16 }, rfl, rfl, rfl, by decide⟩,
    ⟨{ waitingState with now := 1101#16 }, rfl, rfl, rfl, by decide, rfl⟩,
    ⟨{ waitingState with mode := .receiving }, rfl, rfl, by decide, by decide⟩,
    ⟨{ ready with sender := some { waiting31 with k := 0 } }, _, rfl, rfl, by decide, by decide, by decide⟩,
    ⟨{ ready with sender := some { waiting31 with k := 0 }, nowNext := [0#16, 101#16] }, _, rfl, rfl, by decide, by decide,
      by decide⟩,
    ⟨{ ready with sender := some { waiting31 with len := 9#8, k := 0, reply := .fwdUp } }, _, rfl, rfl, rfl, by decide, by decide⟩,
    ⟨{ sending with now := 1101#16, sender := some { waiting31 with k := 0, reply := .fwdDown .c2 } }, _, rfl, rfl, rfl, rfl,
      by decide⟩⟩

/-- P3's clock: one poll at exactly the timeout, the next one past it. -/
theorem witness_WatchdogEndsTheWait :
    ∃ (s : State) (polls : List Clock) (last : Clock), s.mode = .transmitting ∧ s.sender = none ∧ s.nowNext = [] ∧
      s.hostIn = [encode (.writePayload [4#8])] ∧
      s.agenda = .foreground :: ((polls ++ [last]).flatMap (fun c => [Move.clock c [], Move.foreground]) ++ []) ∧
      (∀ c ∈ polls, (c - s.now).toNat ≤ s.params.txTimeoutMs.toNat) ∧ s.params.txTimeoutMs.toNat < (last - s.now).toNat := by
  refine ⟨{ sending with
    hostIn := [encode (.writePayload [4#8])],
    agenda := [.foreground, .clock 1100#16 [], .foreground, .clock 1101#16 [], .foreground] }, [1100#16], 1101#16, rfl, rfl, rfl,
    rfl, rfl, ?_, by decide⟩
  intro c hc
  rw [List.mem_singleton.1 hc]
  decide

/-- A run that stands still after its first step. -/
def standing (a b : State) : Nat → State
  | 0 => a
  | _ + 1 => b

theorem standing_trace (a b : State) (ha : step a = .next b) (hb : step b = .next b) : Trace (standing a b) := fun n => by
  cases n with
  | zero => exact ⟨b, b.agenda, ha, rfl⟩
  | succ n => exact ⟨b, b.agenda, hb, rfl⟩

/-- The state after a step. -/
def after (s : State) : State :=
  match step s with
  | .next t => t
  | _ => s

theorem after_next (s : State) : step s = .next (after s) := by
  obtain ⟨t, h⟩ := step_next s
  simp [after, h]

/-- A host that sends a frame, lets it hang, recovers, and sends again, without end. -/
def resendMove (n : Nat) : Move :=
  match n % 4 with
  | 0 => .submit ⟨0x07#8, [1#8, 9#8]⟩
  | 2 => .submit ⟨0x08#8, []⟩
  | _ => .foreground

/-- The endless run with that host. -/
def resending : Nat → State
  | 0 => { ready with agenda := [resendMove 0] }
  | n + 1 => { after (resending n) with agenda := [resendMove (n + 1)] }

theorem resending_trace : Trace resending := fun _ => ⟨_, _, after_next _, rfl⟩

theorem resending_agenda (n : Nat) : (resending n).agenda = [resendMove n] := by cases n <;> rfl

/-- What holds when `n` moves of the run have been made. -/
def ResendPhase (n : Nat) (s : State) : Prop :=
  s.sender = none ∧ s.mode = (if n % 4 < 2 then .receiving else .transmitting) ∧
    s.hostIn = (match n % 4 with
      | 1 => [⟨0x07#8, [1#8, 9#8]⟩]
      | 3 => [⟨0x08#8, []⟩]
      | _ => [])

/-- A write of one byte in Receiving leaves a transmission in flight and no command. -/
theorem exec_write_one (b : Byte) (s : State) (hm : s.mode = .receiving) :
    ∃ t, exec (.writePayload [b]) s = .next t ∧ t.sender = none ∧ t.mode = .transmitting ∧ t.hostIn = s.hostIn := by
  refine ⟨_, rfl, ?_⟩
  rw [gate_open _ _ s (by simp [hm]), sendBytes_eq]
  have h1 : frameCount (BitVec.ofNat 8 [b].length).toNat = 1 := by simp only [List.length_singleton]; decide
  rcases senderLoop_cases ⟨[b], BitVec.ofNat 8 [b].length, 0, 0#8, s.now, .write⟩ (clockSampled s) with
    ⟨h, -⟩ | ⟨-, h, -⟩ | ⟨-, -, h⟩
  · simp [clockSampled, hm] at h
  · rw [h1] at h; exact absurd h (Nat.lt_irrefl 1)
  · obtain ⟨r, hr⟩ := finishSend_eq _ .ok (transmitFrame _ (clockSampled s))
    rw [h, hr, transmitFrame_eq]
    exact ⟨rfl, rfl, rfl⟩

theorem resendPhase_step (n : Nat) (s : State) (h : ResendPhase n s) (ha : s.agenda = [resendMove n]) :
    ResendPhase (n + 1) (after s) := by
  obtain ⟨hs, hm, hi⟩ := h
  have hn := after_next s
  rw [step_of_cons s _ _ ha] at hn
  have h4 : n % 4 = 0 ∨ n % 4 = 1 ∨ n % 4 = 2 ∨ n % 4 = 3 := by omega
  rcases h4 with h | h | h | h <;> simp only [h] at hm hi
  · simp only [resendMove, h, perform, Host.Outcome.next.injEq] at hn
    rw [← hn, ResendPhase, show (n + 1) % 4 = 1 by omega]
    exact ⟨hs, hm, by rw [hi]; rfl⟩
  · have hd : decodeMessage ⟨0x07#8, [1#8, 9#8]⟩ = .ok (.writePayload [9#8]) := by decide
    obtain ⟨t, ht, h1, h2, h3⟩ := exec_write_one 9#8 { s with agenda := [], hostIn := [] } hm
    simp only [resendMove, h, perform, foregroundStep, hs, hi, runMessage, hd] at hn
    rw [← hs, ht, Host.Outcome.next.injEq] at hn
    rw [← hn, ResendPhase, show (n + 1) % 4 = 2 by omega]
    exact ⟨h1, h2, h3⟩
  · simp only [resendMove, h, perform, Host.Outcome.next.injEq] at hn
    rw [← hn, ResendPhase, show (n + 1) % 4 = 3 by omega]
    exact ⟨hs, hm, by rw [hi]; rfl⟩
  · have hd : decodeMessage ⟨0x08#8, []⟩ = .ok .resetToRx := by decide
    simp only [resendMove, h, perform, foregroundStep, hs, hi, runMessage, hd] at hn
    simp only [exec, execResetToRx, Host.Outcome.next.injEq] at hn
    rw [gate_open _ _ _ (by simp [hm]), resetToReceive_eq] at hn
    rw [← hn, ResendPhase, show (n + 1) % 4 = 0 by omega]
    exact ⟨rfl, rfl, rfl⟩

theorem resending_phase (n : Nat) : ResendPhase n (resending n) := by
  induction n with
  | zero => exact ⟨rfl, rfl, rfl⟩
  | succ n ih => exact resendPhase_step n _ ih (resending_agenda n)

/-- A packet for a child whose wait starts in Transmitting, polled as in P3. -/
theorem witness_WatchdogEndsTheWait_forward :
    ∃ (s : State) (polls : List Clock) (last : Clock), s.mode = .transmitting ∧ s.sender = none ∧ s.nowNext = [] ∧
      (3#8 : Byte).toNat = Pipe.p3.num ∧ PacketReady .p3 headerDown (List.replicate 21 0#8) [] s ∧
      ForwardedTo s.params (headerDown.h0 ++ headerDown.h1 ++ headerDown.h2) 0xF0F0F0F0C2#40 (.fwdDown .c2) [3#8, 2#8] ∧
      s.hostIn = [encode (.routeStep 3#8)] ∧
      s.agenda = .foreground :: ((polls ++ [last]).flatMap (fun c => [Move.clock c [], Move.foreground]) ++ []) ∧
      (∀ c ∈ polls, (c - s.now).toNat ≤ s.params.txTimeoutMs.toNat) ∧ s.params.txTimeoutMs.toNat < (last - s.now).toNat :=
  ⟨_, [], 1101#16, rfl, rfl, rfl, rfl,
    packetReady_of_queue .p3 headerDown (List.replicate 21 0#8) []
      { sending with hostIn := [encode (.routeStep 3#8)], agenda := [.foreground, .clock 1101#16 [], .foreground] }
      (by decide) (by decide) rfl rfl,
    .inr ⟨.c2, by decide, rfl, rfl, rfl⟩, rfl, rfl, (fun c hc => by cases hc), by decide⟩

/-- An endless run with recurring sends, each ended by RESET_TO_RX; a wait that expires; and nobody who attends. -/
theorem witness_WatchdogEndsTheWait_runs :
    (∃ σ, Trace σ ∧ (∀ n, ∃ m, n ≤ m ∧ (σ m).mode = .transmitting) ∧
      (∀ n, (σ n).mode = .transmitting → (σ n).sender = none → ∃ m, n ≤ m ∧
        (CompletionServed (σ m) ∨ HostAttends (σ m) ∨ ResetNext (σ m))) ∧
      ∀ n, (σ n).mode = .transmitting → (σ n).sender ≠ none → ∃ m, n ≤ m ∧
        (CompletionServed (σ m) ∨ WaitExpires (σ m) ∨ ResetNext (σ m))) ∧
    (∃ σ, Trace σ ∧ (σ 0).mode = .transmitting ∧ (σ 0).sender ≠ none ∧
      (∀ n, (σ n).mode = .transmitting → (σ n).sender = none → ∃ m, n ≤ m ∧
        (CompletionServed (σ m) ∨ HostAttends (σ m) ∨ ResetNext (σ m))) ∧
      ∀ n, (σ n).mode = .transmitting → (σ n).sender ≠ none → ∃ m, n ≤ m ∧
        (CompletionServed (σ m) ∨ WaitExpires (σ m) ∨ ResetNext (σ m))) ∧
    ∃ σ, Trace σ ∧ (σ 0).mode = .transmitting ∧ ∀ n, NobodyAttends (σ n) := by
  refine ⟨⟨resending, resending_trace, ?_, ?_, fun n _ hs => absurd (resending_phase n).1 hs⟩,
    ⟨standing { waitingState with now := 1101#16 } _, standing_trace _ _ rfl rfl, rfl, by simp [standing, waitingState], ?_, ?_⟩,
    ⟨fun _ => sending, fun _ => ⟨sending, [], rfl, rfl⟩, rfl, fun _ => ⟨?_, ?_, fun _ => ⟨rfl, rfl⟩⟩⟩⟩
  · intro n
    have hm := (resending_phase (4 * n + 2)).2.1
    rw [show (4 * n + 2) % 4 = 2 by omega] at hm
    exact ⟨4 * n + 2, by omega, hm⟩
  · intro n _ _
    obtain ⟨hs, -, hi⟩ := resending_phase (4 * n + 3)
    rw [show (4 * n + 3) % 4 = 3 by omega] at hi
    refine ⟨4 * n + 3, by omega, .inr (.inl ⟨?_, hs, _, _, .resetToRx, hi, by decide, .inr (.inr (.inr (.inl rfl)))⟩)⟩
    simp [ForegroundNext, nextMove, resending_agenda, resendMove, show (4 * n + 3) % 4 = 3 by omega]
  · rintro (_ | n) h hs
    · cases hs
    · cases h
  · rintro (_ | n) h _
    · exact ⟨0, Nat.le_refl _, .inr (.inl ⟨rfl, waiting31, rfl, by decide⟩)⟩
    · cases h
  · rintro ⟨_, h⟩; cases h
  · rintro ⟨h, _⟩; cases h

/-- A write of two frames (V81 with a longer write). -/
theorem witness_CompletedWaitsSendEveryFrame :
    ∃ (s : State) (data : List Byte), s.mode = .receiving ∧ s.sender = none ∧ s.irqEn = true ∧ s.nowNext = [] ∧
      s.radioStatus.txDs = true ∧ data.length ≤ 255 ∧ s.hostIn = [encode (.writePayload data)] ∧ frameCount data.length = 2 ∧
      s.agenda = .foreground ::
        ((List.replicate (frameCount data.length - 1)
          [Move.irqLine true, Move.irqLine false, Move.interrupt, Move.foreground]).flatten ++ []) :=
  ⟨{ ready with
      radioStatus := ⟨false, true, false, 7#3⟩, hostIn := [encode (.writePayload (List.replicate 31 5#8))],
      agenda := [.foreground, .irqLine true, .irqLine false, .interrupt, .foreground] },
    List.replicate 31 5#8, rfl, rfl, rfl, rfl, rfl, by decide, rfl, by decide, rfl⟩

theorem witness_ChunksPartitionTheData :
    0 + 1 < frameCount (List.replicate 31 5#8).length ∧ (List.replicate 31 5#8 : List Byte) ≠ [] := by decide

theorem witness_ResetToRxResult : State.reset.mode = .standby ∧ ready.mode ≠ .standby ∧ sending.mode ≠ .standby := by decide

/-- V73 and V74: the subtraction wraps. -/
theorem witness_TimeoutPredicateWraps :
    100 < 65536 ∧ (64#16 : Clock) = 65500#16 + BitVec.ofNat 16 100 ∧ (65#16 : Clock) = 65500#16 + BitVec.ofNat 16 101 := by decide

/-- V110 to V115. -/
theorem witness_DataReadyResult :
    State.reset.mode = .standby ∧ ready.mode = .receiving ∧
      (∃ s : State, s.mode = .transmitting ∧ s.params.txTimeoutMs.toNat < (s.now - s.txStart).toNat) ∧
      (∃ s : State, s.mode = .transmitting ∧ (s.now - s.txStart).toNat = s.params.txTimeoutMs.toNat) :=
  ⟨rfl, rfl, ⟨{ sending with now := 1101#16 }, rfl, by decide⟩, ⟨{ sending with now := 1100#16 }, rfl, by decide⟩⟩

theorem witness_IrqServiceCompletesTransmission :
    ∃ s : State, (s.radioStatus.txDs = true ∨ s.radioStatus.maxRt = true) ∧ s.radioStatus.rxDr = true :=
  ⟨served ⟨true, true, false, 2#3⟩ frame123 sending, .inl rfl, rfl⟩

/-- A valid frame (V96, pipe 5) and an invalid one (V100). -/
theorem witness_IrqServiceReceivesAFrame :
    (∃ s : State, s.radioStatus.txDs = false ∧ s.radioStatus.maxRt = false ∧ s.radioStatus.rxDr = true ∧
      s.radioStatus.rxPNo.toNat = Pipe.p5.num ∧ s.radioFrame.length = 32 ∧ (decodeFrameOf s.radioFrame).valid = true) ∧
    (∃ s : State, s.radioStatus.txDs = false ∧ s.radioStatus.maxRt = false ∧ s.radioStatus.rxDr = true ∧
      s.radioStatus.rxPNo.toNat = Pipe.p2.num ∧ s.radioFrame.length = 32 ∧ (decodeFrameOf s.radioFrame).valid = false) :=
  ⟨⟨served ⟨true, false, false, 5#3⟩ frame123 ready, rfl, rfl, rfl, rfl, rfl, by decide⟩,
    ⟨served ⟨true, false, false, 2#3⟩ (frameFrom [3#8, 1#8, 6#8, 3#8, 0xF6#8]) ready, rfl, rfl, rfl, rfl, rfl, by decide⟩⟩

/-- V97, V98, V90. -/
theorem witness_IrqServiceIgnoresTheRest :
    (∃ s : State, s.radioStatus.txDs = false ∧ s.radioStatus.maxRt = false ∧ s.radioStatus.rxDr = true ∧
      6 = s.radioStatus.rxPNo.toNat) ∧
    (∃ s : State, s.radioStatus.txDs = false ∧ s.radioStatus.maxRt = false ∧ s.radioStatus.rxDr = false) :=
  ⟨⟨served ⟨true, false, false, 6#3⟩ frame123 ready, rfl, rfl, rfl, rfl⟩,
    ⟨served ⟨false, false, false, 7#3⟩ frame123 ready, rfl, rfl, rfl⟩⟩

theorem witness_InterruptLatch :
    (∃ s : State, nextMove s = .irqLine false ∧ s.irqEn = true ∧ s.irqLine = true) ∧
      (∃ s : State, nextMove s = .interrupt ∧ (s.irqEn = false ∨ s.irqPend = false)) ∧
      (∃ s : State, nextMove s = .interrupt ∧ s.irqEn = true ∧ s.irqPend = true) :=
  ⟨⟨{ ready with agenda := [.irqLine false] }, rfl, rfl, rfl⟩, ⟨{ State.reset with agenda := [.interrupt] }, rfl, .inl rfl⟩,
    ⟨{ ready with irqPend := true, agenda := [.interrupt] }, rfl, rfl, rfl⟩⟩

/-- One place left, none left; a step of the foreground. -/
theorem witness_QueuePushDropsWhenFull :
    (∃ s : State, (s.q.get .p0).length + 1 = s.params.queueCap) ∧ (∃ s : State, s.params.queueCap = (s.q.get .p0).length) ∧
      (∃ s t : State, step s = .next t ∧ nextMove s ≠ .interrupt) :=
  ⟨⟨queued .p0 (List.replicate 63 0#8) ready, by decide⟩, ⟨queued .p0 (List.replicate 64 0#8) ready, by decide⟩,
    ⟨ready, _, rfl, by decide⟩⟩

theorem witness_PipeCountResult : 6 ≤ (6#8 : Byte).toNat ∧ (0#8 : Byte).toNat = Pipe.p0.num ∧ (5#8 : Byte).toNat = Pipe.p5.num := by decide

theorem witness_PipeReadResult :
    6 ≤ (6#8 : Byte).toNat ∧ (5#8 : Byte).toNat = Pipe.p5.num ∧ ready.q.get .p5 = [] ∧
      (queued .p5 [1#8, 2#8] ready).q.get .p5 = 1#8 :: [2#8] := by decide

theorem witness_PipesAreIsolated :
    (∃ s t : State, exec .irqService s = .next t ∧ s.radioStatus.rxPNo.toNat ≠ Pipe.p3.num) ∧
      (∃ s1 s2 t1 t2 : State, (5#8 : Byte).toNat = Pipe.p5.num ∧ s1.q.get .p5 = s2.q.get .p5 ∧
        exec (.pipeRead 5#8) s1 = .next t1 ∧ exec (.pipeRead 5#8) s2 = .next t2) :=
  ⟨⟨served ⟨true, false, false, 2#3⟩ frame123 ready, _, rfl, by decide⟩, ⟨ready, sending, _, _, rfl, rfl, rfl, rfl⟩⟩

/-- The source's scenario S8. -/
theorem witness_EndToEndDelivery :
    ∃ (ta b : State) (tr : List RadioOp), ready.mode = .receiving ∧ exec (.writePayload [1#8, 2#8, 3#8]) ready = .next ta ∧
      ta.radioTrace = ready.radioTrace ++ tr ∧ frame123 ∈ framesWritten tr ∧ b.radioFrame = frame123 ∧
      b.radioStatus = ⟨true, false, false, BitVec.ofNat 3 Pipe.p1.num⟩ ∧ (b.q.get .p1).length + 3 ≤ b.params.queueCap := by
  refine ⟨_, served ⟨true, false, false, 1#3⟩ frame123 ready, [.ce false, .setMode .tx, .flushTx, .writeTxPayload frame123, .ce true],
    rfl, rfl, by decide, by decide, rfl, by decide, by decide⟩

/-- R248's rows for the five cases; depths that differ by one, two and three. -/
theorem witness_RouteDecisionCases :
    (0x000025#24 : TreeAddr) ≠ 0x000021#24 ∧ (addrDepth 0x000025#24).toNat = (addrDepth 0x000021#24).toNat ∧
      (addrDepth 0x000017#24).toNat + 1 = (addrDepth 0x000021#24).toNat ∧
      (∃ p : Params, p.down1 (addrWidth 0x000017#24) (addrDepth 0x000021#24) = none) ∧
      (∃ p : Params, p.down1 (addrWidth 0x000017#24) (addrDepth 0x000021#24) = some .c5) ∧
      (addrDepth 0x00000F#24).toNat + 2 = (addrDepth 0x000021#24).toNat ∧ addrWidth 0x000000#24 = 0#4 ∧
      addrWidth 0x00000F#24 ≠ 0#4 ∧ (addrDepth 0x000031#24).toNat ≠ (addrDepth 0x000021#24).toNat ∧
      (addrDepth 0x000031#24).toNat + 1 ≠ (addrDepth 0x000021#24).toNat ∧
      (addrDepth 0x000031#24).toNat + 2 ≠ (addrDepth 0x000021#24).toNat :=
  ⟨by decide, by decide, by decide, ⟨{ Params.test with routeDown1 := [] }, by decide⟩,
    ⟨{ Params.test with routeDown1 := List.replicate 256 (some .c5) }, by decide⟩, by decide, by decide, by decide, by decide,
    by decide, by decide⟩

theorem witness_RouteDecisionLaws :
    routeDecision Params.test 0x00000F#24 0x000021#24 = .down .c3 ∧ (0x000025#24 : TreeAddr) ≠ 0x000021#24 ∧
      (addrDepth 0x000021#24).toNat ≤ (addrDepth 0x000025#24).toNat ∧
      (addrDepth 0x0000C1#24).toNat + 2 < (addrDepth 0x0000F1#24).toNat := by decide

/-- Each clause: a bad pipe, a stopped pipe, eight bytes, a latched header and one byte too few, a header and one byte too few. -/
theorem witness_RouteStepWithoutAPacket :
    ready.mode ≠ .standby ∧ 6 ≤ (6#8 : Byte).toNat ∧ (1#8 : Byte).toNat = Pipe.p1.num ∧
      (∃ s : State, s.mode ≠ .standby ∧ s.rtErr.get .p1 = true) ∧
      (∃ s : State, s.mode ≠ .standby ∧ s.rtErr.get .p1 = false ∧ s.rtHdrValid.get .p1 = false ∧ (s.q.get .p1).length = 8) ∧
      (∃ s : State, s.mode ≠ .standby ∧ s.rtErr.get .p1 = false ∧ s.rtHdrValid.get .p1 = true ∧
        (s.q.get .p1).length < (s.rtHdr.get .p1).count.toNat) ∧
      (∃ s : State, s.mode ≠ .standby ∧ s.rtErr.get .p1 = false ∧ s.rtHdrValid.get .p1 = false ∧
        s.q.get .p1 = headerDown.bytes ++ List.replicate 20 0#8 ∧ headerDown.count.toNat = 21) :=
  ⟨by decide, by decide, by decide, ⟨{ ready with rtErr := ready.rtErr.set .p1 true }, by decide, rfl⟩,
    ⟨queued .p1 (List.replicate 8 0#8) ready, by decide, rfl, rfl, rfl⟩,
    ⟨{ queued .p1 [1#8] ready with rtHdrValid := ready.rtHdrValid.set .p1 true, rtHdr := ready.rtHdr.set .p1 headerUp },
      by decide, rfl, rfl, by decide⟩,
    ⟨queued .p1 (headerDown.bytes ++ List.replicate 20 0#8) ready, by decide, rfl, rfl, rfl, by decide⟩⟩

theorem witness_RouterErrorIsSticky :
    (∃ s : State, s.mode ≠ .standby ∧ (5#8 : Byte).toNat = Pipe.p5.num ∧ s.rtErr.get .p5 = false ∧
      s.rtHdrValid.get .p5 = false ∧ s.q.get .p5 = headerTooLong.bytes ++ [] ∧ 21 < headerTooLong.count.toNat) ∧
    (∃ s t : State, step s = .next t ∧ ¬ ResetNext s ∧ s.mode ≠ .standby ∧ s.rtErr.get .p5 = true) :=
  ⟨⟨queued .p5 headerTooLong.bytes ready, by decide, by decide, rfl, rfl, by decide, by decide⟩,
    ⟨{ ready with rtErr := ready.rtErr.set .p5 true }, _, rfl, (fun ⟨_, h⟩ => by cases h), by decide, rfl⟩⟩

/-- A command the table lacks, one with another count than the table's, and P4's. -/
theorem witness_LocalPacketIsDispatched :
    (∃ s : State, s.mode ≠ .standby ∧ PacketReady .p1 headerUnknown [] [] s ∧ headerUnknown.dest = s.params.boardAddress ∧
      ∀ e ∈ s.params.cmdTable, e.id ≠ headerUnknown.cmd) ∧
    (∃ s : State, s.mode ≠ .standby ∧ PacketReady .p1 headerBadCount [] [] s ∧ headerBadCount.dest = s.params.boardAddress ∧
      s.params.cmdTable[0]? = some ⟨0x0001#16, 3#8⟩ ∧ headerBadCount.cmd = 0x0001#16 ∧ (3#8 : Byte) ≠ headerBadCount.count) ∧
    (∃ s : State, s.mode ≠ .standby ∧ PacketReady .p1 header1 [1#8, 2#8, 3#8] [] s ∧ header1.dest = s.params.boardAddress ∧
      s.params.cmdTable[0]? = some ⟨0x0001#16, 3#8⟩ ∧ header1.cmd = 0x0001#16 ∧ (3#8 : Byte) = header1.count) :=
  ⟨⟨_, by decide, packetReady_of_queue .p1 headerUnknown [] [] ready (by decide) (by decide) rfl rfl, by decide, by decide⟩,
    ⟨_, by decide, packetReady_of_queue .p1 headerBadCount [] [] ready (by decide) (by decide) rfl rfl, by decide, by decide,
      by decide, by decide⟩,
    ⟨_, by decide, packetReady_of_queue .p1 header1 [1#8, 2#8, 3#8] [] ready (by decide) (by decide) rfl rfl, by decide,
      by decide, by decide, by decide⟩⟩

/-- UP to the parent, and DOWN to child 2 with the largest packet. -/
theorem witness_PacketIsForwarded :
    (∃ s : State, s.mode = .receiving ∧ PacketReady .p3 headerUp [0x55#8, 0x66#8] [] s ∧
      (∃ f, encodeFrameOf (headerUp.bytes ++ [0x55#8, 0x66#8]) = some f) ∧
      ForwardedTo s.params (headerUp.h0 ++ headerUp.h1 ++ headerUp.h2) 0xF0F0F0F0E1#40 .fwdUp [2#8, 0#8]) ∧
    (∃ s : State, s.mode = .receiving ∧ PacketReady .p3 headerDown (List.replicate 21 0#8) [] s ∧
      (∃ f, encodeFrameOf (headerDown.bytes ++ List.replicate 21 0#8) = some f) ∧
      ForwardedTo s.params (headerDown.h0 ++ headerDown.h1 ++ headerDown.h2) 0xF0F0F0F0C2#40 (.fwdDown .c2) [3#8, 2#8]) :=
  ⟨⟨_, rfl, packetReady_of_queue .p3 headerUp [0x55#8, 0x66#8] [] ready (by decide) (by decide) rfl rfl, ⟨_, rfl⟩,
      .inl ⟨by decide, rfl, rfl, rfl, rfl⟩⟩,
    ⟨_, rfl, packetReady_of_queue .p3 headerDown (List.replicate 21 0#8) [] ready (by decide) (by decide) rfl rfl, ⟨_, rfl⟩,
      .inr ⟨.c2, by decide, rfl, rfl, rfl⟩⟩⟩

/-- UP and DOWN, with a clock that stands and one that jumps past the timeout. -/
theorem witness_ForwardInTransmittingWaits :
    (∃ s : State, s.mode = .transmitting ∧ PacketReady .p3 headerUp [0x55#8, 0x66#8] [] s ∧
      ForwardedTo s.params (headerUp.h0 ++ headerUp.h1 ++ headerUp.h2) 0xF0F0F0F0E1#40 .fwdUp [2#8, 0#8] ∧
      (sample 1 s - sample 0 s).toNat ≤ s.params.txTimeoutMs.toNat) ∧
    (∃ s : State, s.mode = .transmitting ∧ PacketReady .p3 headerDown (List.replicate 21 0#8) [] s ∧
      ForwardedTo s.params (headerDown.h0 ++ headerDown.h1 ++ headerDown.h2) 0xF0F0F0F0C2#40 (.fwdDown .c2) [3#8, 2#8] ∧
      s.params.txTimeoutMs.toNat < (sample 1 s - sample 0 s).toNat) :=
  ⟨⟨_, rfl, packetReady_of_queue .p3 headerUp [0x55#8, 0x66#8] [] sending (by decide) (by decide) rfl rfl,
      .inl ⟨by decide, rfl, rfl, rfl, rfl⟩, by decide⟩,
    ⟨_, rfl, packetReady_of_queue .p3 headerDown (List.replicate 21 0#8) [] { sending with nowNext := [1101#16] } (by decide)
      (by decide) rfl rfl, .inr ⟨.c2, by decide, rfl, rfl, rfl⟩, by decide⟩⟩

theorem witness_PacketWithoutRouteIsDropped :
    ∃ s : State, s.mode ≠ .standby ∧ PacketReady .p3 headerUp [0x55#8, 0x66#8] [] s ∧
      routeDecision s.params headerUp.dest s.params.boardAddress = .up ∧ s.params.hasParent = false :=
  ⟨_, by decide, packetReady_of_queue .p3 headerUp [0x55#8, 0x66#8] []
    { ready with params := { Params.test with hasParent := false } } (by decide) (by decide) rfl rfl, by decide, rfl⟩

theorem witness_RouteStepConsumesAtMostThirtyBytes :
    ∃ t, LatchesConsistent ready ∧ (1#8 : Byte).toNat = Pipe.p1.num ∧ exec (.routeStep 1#8) ready = .next t :=
  ⟨_, ready_invariant.latches, rfl, rfl⟩

/-- R45's states, and a run from one of them that brings the radio up and enables a pipe. -/
theorem witness_ResetState :
    (∃ p u, State.reset = State.resetWith p u) ∧
    ∃ t, Runs 2
      { State.resetWith Params.test { Unspecified.zero with cfgPipeEn := 0x2A#6 } with
        agenda := [.submit ⟨0x01#8, []⟩, .foreground] } t ∧ t.mode = .receiving :=
  ⟨⟨_, _, rfl⟩, ⟨_, ⟨_, rfl, ⟨_, rfl, rfl⟩⟩, rfl⟩⟩

theorem witness_HardwareResetResult : ∃ s : State, nextMove s = .reset Unspecified.zero ∧ s.mode = .transmitting ∧ s.sender ≠ none :=
  ⟨{ waitingState with agenda := [.reset Unspecified.zero] }, rfl, rfl, by simp [waitingState]⟩

/-- The ends of R11's ranges. -/
theorem witness_InvariantHoldsAtReset :
    Params.test.InRange ∧ { Params.test with txTimeoutMs := 65534#16, defaultChannel := 125#7, queueCap := 65535 }.InRange ∧
      { Params.test with txTimeoutMs := 0#16, queueCap := 1, cntW := 0, configBase := 0xFC#8 }.InRange :=
  ⟨testParams_inRange, ⟨by decide, by decide, by decide, by decide, by decide, by decide, testParams_inRange.2.2.2.2.2.2⟩,
    ⟨by decide, by decide, by decide, by decide, by decide, by decide, testParams_inRange.2.2.2.2.2.2⟩⟩

theorem witness_EveryStepKeepsTheInvariant :
    ∃ s t : State, MachineInvariant s ∧ step s = .next t ∧ s.mode = .transmitting := ⟨sending, _, sending_invariant, rfl, rfl⟩

/-- INIT from Standby. -/
theorem witness_ModeTransitions :
    ∃ s t : State, MachineInvariant s ∧ step s = .next t ∧ t.mode ≠ s.mode := by
  refine ⟨{ State.reset with hostIn := [⟨0x01#8, []⟩] }, _, ?_, rfl, by decide⟩
  exact
    { params := reset_invariant.params, queues := reset_invariant.queues, counters := reset_invariant.counters,
      standby := reset_invariant.standby, active := reset_invariant.active, channel := reset_invariant.channel,
      pending := reset_invariant.pending, latches := reset_invariant.latches, sender := reset_invariant.sender }

theorem witness_ConfigurationWriters :
    (∃ t : State, exec .getMode ready = .next t) ∧
      (∃ s t : State, step s = .next t ∧ ¬ ResetNext s ∧ s.sender ≠ none) ∧
      (∃ s t : State, step s = .next t ∧ ¬ ResetNext s ∧ ¬ ForegroundNext s) :=
  ⟨⟨_, rfl⟩, ⟨waitingState, _, rfl, (fun ⟨_, h⟩ => by cases h), by simp [waitingState]⟩,
    ⟨{ ready with agenda := [.interrupt] }, _, rfl, (fun ⟨_, h⟩ => by cases h), fun h => by cases h⟩⟩

/-- A counter below its end and one at it; a firing, a RESET_TO_RX and an invalid frame. -/
theorem witness_CountersAreMonotone :
    (∃ t : State, step ready = .next t ∧ ¬ ResetNext ready) ∧ (65534 : Nat) < 2 ^ Params.test.cntW - 1 ∧
      65535 = 2 ^ Params.test.cntW - 1 ∧ ready.mode ≠ .standby ∧
      (∃ s : State, ForegroundNext s ∧ s.sender = some waiting31 ∧ s.mode = .transmitting ∧
        s.params.txTimeoutMs.toNat < (s.now - waiting31.tWait).toNat) ∧
      (∃ s : State, s.radioStatus = ⟨true, false, false, 2#3⟩ ∧ (2#3 : BitVec 3).toNat = Pipe.p2.num ∧
        s.radioFrame.length = 32 ∧ (decodeFrameOf s.radioFrame).valid = false) :=
  ⟨⟨_, rfl, ready_not_reset⟩, by decide, by decide, by decide, ⟨{ waitingState with now := 1101#16 }, rfl, rfl, rfl, by decide⟩,
    ⟨served ⟨true, false, false, 2#3⟩ (frameFrom [31#8]) ready, rfl, rfl, by decide, by decide⟩⟩

/-! ## The radio's contract -/

/-- A radio that is up, with nothing in it. -/
def idleRadio : Radio where
  rxFifo := []
  txFifo := []
  txHeld := false
  rxDr := false
  txDs := false
  maxRt := false
  config := 0x0B#8
  enRxaddr := 0x3F#8
  ce := true
  rfCh := 2#8
  rxPw := PerPipe.all 0x20#8
  rxAddr0 := 0xE7E7E7E7E7#40
  rxAddr1 := 0xC2C2C2C2C2#40
  rxLo := PerPipe.all 0xC3#8
  txAddr := 0xF0F0F0F0D2#40
  autoAck := true

/-- R306: after a write the frame is on the air to the transmit address; powered down it is not. -/
theorem test_radio_on_air :
    (idleRadio.reactAll Params.test
        [.writeReg .txAddr [0x9A#8, 0x78#8, 0x56#8, 0x34#8, 0x12#8], .ce false, .setMode .tx, .flushTx, .writeTxPayload frame123,
         .ce true]).onAir = some (0x123456789A#40, frame123) ∧
      (idleRadio.reactAll Params.test [.writeReg .config [0x08#8], .writeTxPayload frame123]).onAir = none := by decide

/-- R306: with acknowledgement on, none that comes back sets "max retransmits" and keeps the frame; without it the frame is sent. -/
theorem test_radio_conclude :
    let r := { idleRadio with config := 0x0A#8, txFifo := [frame123] }
    (r.conclude false).maxRt = true ∧ (r.conclude false).txFifo = [frame123] ∧ (r.conclude true).maxRt = true ∧
      ({ r with rxAddr0 := 0xF0F0F0F0D2#40 }.conclude true).txDs = true ∧
      ({ r with autoAck := false }.conclude false).txDs = true ∧ ({ r with autoAck := false }.conclude false).txFifo = [] := by
  decide

/-- R306: a frame that has reached the limit is not sent while the flag stands, and stays until flushed. -/
theorem test_radio_held :
    let r := { idleRadio with config := 0x0A#8, txFifo := [frame123], rxAddr0 := 0xF0F0F0F0D2#40 }
    ((r.conclude false).conclude true).txFifo = [frame123] ∧ ((r.conclude false).conclude true).txDs = false ∧
      (((r.conclude false).react Params.test (.clearFlags true true true)).conclude true).txFifo = [frame123] ∧
      ((r.conclude false).react Params.test .flushTx).txFifo = [] := by
  decide

/-- R305, R25: a frame for pipe 3 needs the upper bytes of pipe 1. -/
theorem test_radio_arrive :
    (idleRadio.arrive 0xC2C2C2C2C3#40 .p3 frame123).rxFifo = [(.p3, frame123)] ∧
      (idleRadio.arrive 0xE7E7E7E7C3#40 .p3 frame123).rxFifo = [] := by decide

/-- Two frames wait in the radio. -/
theorem witness_ReceiveFlushDiscardsWaitingFrames :
    ∃ r : Radio, r.rxFifo = (.p2, frame123) :: [(.p2, frame123)] ∧ r.rxDr = true ∧ r.txDs = false ∧ r.maxRt = false ∧
      frame123.length = 32 :=
  ⟨{ idleRadio with rxFifo := [(.p2, frame123), (.p2, frame123)], rxDr := true }, rfl, rfl, rfl, rfl, rfl⟩

theorem witness_FlagsClearedWithoutARead :
    (∃ r : Radio, (r.txDs = true ∨ r.maxRt = true) ∧ r.rxDr = true ∧ r.rxFifo ≠ []) ∧ sending.mode ≠ .standby :=
  ⟨⟨{ idleRadio with rxFifo := [(.p2, frame123)], rxDr := true, txDs := true }, .inl rfl, rfl, by simp⟩, by decide⟩

theorem witness_IgnoredPipeLeavesTheLineLow :
    ∃ (s : State) (r : Radio), s.radioStatus.rxDr = true ∧ s.radioStatus.txDs = false ∧ s.radioStatus.maxRt = false ∧
      6 ≤ s.radioStatus.rxPNo.toNat ∧ s.irqLine = false ∧ r.line = false :=
  ⟨{ served ⟨true, false, false, 7#3⟩ frame123 ready with irqLine := false },
    { idleRadio with rxDr := true }, rfl, rfl, rfl, by decide, rfl, rfl⟩

end Sys2Proof.Tests
end

/-! SUPPORT. What the decoder never gives, and which message is INIT (30_encoding R101, R106). -/

namespace Sys2Proof.Machine

/-- The code of the operation that a listed code names. -/
theorem code_of_ofCode? {b : Byte} {o : Op} (h : Op.ofCode? b = some o) : o.code = b := by
  simpa using List.find?_some h

/-- A message that decodes has a listed code and the length of its format. -/
theorem decodeMessage_eq_ok {m : Message} {i : Instr} (h : decodeMessage m = .ok i) :
    ∃ o, o.code = m.op ∧ m.rest.length = operandLength o.format m.rest ∧ assemble o m.rest = i := by
  unfold decodeMessage at h
  split at h
  · cases h
  · next o ho =>
    split at h
    · next hl => exact ⟨o, code_of_ofCode? ho, hl, Except.ok.inj h⟩
    · cases h

/-- R101: IRQ_SERVICE is no host command. -/
theorem decodeMessage_ne_irqService {m : Message} {i : Instr} (h : decodeMessage m = .ok i) : i ≠ .irqService := by
  obtain ⟨o, -, -, rfl⟩ := decodeMessage_eq_ok h
  cases o <;> exact nofun

/-- R101, R102: the one message of INIT is its code alone. -/
theorem message_of_decode_init {m : Message} (h : decodeMessage m = .ok .init) : m = ⟨0x01#8, []⟩ := by
  obtain ⟨o, hc, hl, ha⟩ := decodeMessage_eq_ok h
  obtain rfl : o = .init := by cases o <;> first | rfl | cases ha
  obtain ⟨op, rest⟩ := m
  obtain rfl : rest = [] := List.length_eq_zero_iff.1 hl
  exact congrArg (Message.mk · []) hc.symm

end Sys2Proof.Machine

/-! SUPPORT. Everything an interrupt service, the sender's loop and a ROUTE_STEP can do, once. -/

namespace Sys2Proof.Machine

/-! ## The interrupt service -/

/-- R215: a valid frame's bytes are pushed; an invalid frame is counted. Nothing else changes. -/
theorem deliver_cases (p : Pipe) (f : List Byte) (s : State) :
    ((decodeFrameOf f).valid = true ∧ ∃ q n, deliver p f s =
      { s with q := q, conditions := s.conditions ++ List.replicate n (.queueOverflow p) }) ∨
    ((decodeFrameOf f).valid = false ∧ deliver p f s =
      { s with
        cntCksumErr := satInc s.params s.cntCksumErr, conditions := s.conditions ++ [.checksumMismatch p] }) := by
  cases hv : (decodeFrameOf f).valid
  · exact .inr ⟨rfl, by simp [deliver, hv, raiseCond]⟩
  · exact .inl ⟨rfl, _, _, by simp only [deliver, hv, if_true]; exact queuePushAll_eq _ _ _⟩

/-- R211, everything `TxDone` does. -/
theorem txDone_eq (s : State) :
    txDone s =
      { s with
        mode := .receiving, ce := true,
        radioTrace := s.radioTrace ++ [.ce false, .setMode .rx, .ce true, .clearFlags true true true] } := by
  simp [txDone, enterReceive_eq, transact]

/-- R213: the three transactions of a receive come before the delivery. -/
theorem receive_eq (p : Pipe) (s : State) :
    receive p s =
      deliver p (frame32 s.radioFrame)
        { s with radioTrace := s.radioTrace ++ [.readRxPayload, .flushRx, .clearFlags true false false] } := by
  simp [receive, radioRxPayloadValue, transact]

/-- R210 to R215: the four outcomes of a service: a completion, which enters receive; a valid frame pushed; an invalid frame
counted; nothing but a status read. -/
theorem exec_irqService_cases (s : State) :
    ((s.radioStatus.txDs = true ∨ s.radioStatus.maxRt = true) ∧ ∃ tr, exec .irqService s =
      .next { s with irqPend := false, mode := .receiving, ce := true, radioTrace := s.radioTrace ++ tr }) ∨
    ((decodeFrameOf (frame32 s.radioFrame)).valid = true ∧ ∃ p tr q n, exec .irqService s =
      .next { s with
        irqPend := false, q := q, radioTrace := s.radioTrace ++ tr,
        conditions := s.conditions ++ List.replicate n (.queueOverflow p) }) ∨
    ((decodeFrameOf (frame32 s.radioFrame)).valid = false ∧ ∃ p tr, exec .irqService s =
      .next { s with
        irqPend := false, cntCksumErr := satInc s.params s.cntCksumErr, radioTrace := s.radioTrace ++ tr,
        conditions := s.conditions ++ [.checksumMismatch p] }) ∨
    ((s.radioStatus.rxDr = false ∨ Pipe.ofField? s.radioStatus.rxPNo = none) ∧
      ∃ tr cs, (∀ c ∈ cs, ∃ v, c = .badPipe v) ∧ exec .irqService s =
        .next { s with irqPend := false, radioTrace := s.radioTrace ++ tr, conditions := s.conditions ++ cs }) := by
  have hexec : exec .irqService s =
      .next (demultiplex s.radioStatus { s with irqPend := false, radioTrace := s.radioTrace ++ [.readStatus] }) := rfl
  rw [hexec, demultiplex]
  by_cases hc : s.radioStatus.txConcluded = true
  · rw [if_pos hc, txDone_eq]
    exact .inl ⟨by simpa [StatusRec.txConcluded] using hc, _, by rw [List.append_assoc]⟩
  rw [if_neg hc]
  cases hd : s.radioStatus.rxDr
  · exact .inr (.inr (.inr ⟨.inl rfl, [.readStatus], [], nofun, by simp⟩))
  cases hp : Pipe.ofField? s.radioStatus.rxPNo with
  | none => exact .inr (.inr (.inr ⟨.inr rfl, _, [_], by simp, rfl⟩))
  | some p =>
    simp only [if_true, receive_eq]
    rcases deliver_cases p (frame32 s.radioFrame)
        { s with
          irqPend := false, radioTrace := s.radioTrace ++ [.readStatus] ++
            [.readRxPayload, .flushRx, .clearFlags true false false] } with ⟨hv, q, n, h⟩ | ⟨hv, h⟩
    · exact .inr (.inl ⟨hv, p, _, q, n, by rw [h, List.append_assoc]⟩)
    · exact .inr (.inr (.inl ⟨hv, p, _, by rw [h, List.append_assoc]⟩))

/-! ## The sender -/

/-- R181 to R184: the three ways an iteration of the sender's loop ends: it waits on; the watchdog fires, at once or after a
frame; a frame is sent, as the last one or before the next wait. -/
theorem senderLoop_endings (snd : Sender) (s : State) :
    (s.mode = .transmitting ∧ senderLoop snd s = { clockSampled s with sender := some snd }) ∨
    (senderLoop snd s = { s with
      mode := .receiving, ce := true, cntReset := satInc s.params s.cntReset, conditions := s.conditions ++ [.txTimeout],
      sender := none, txStart := (senderLoop snd s).txStart, now := (senderLoop snd s).now,
      nowNext := (senderLoop snd s).nowNext, radioTrace := (senderLoop snd s).radioTrace,
      hostOut := (senderLoop snd s).hostOut }) ∨
    (s.mode ≠ .transmitting ∧ senderLoop snd s = { transmitFrame (chunk snd.data snd.k) s with
      sender := (senderLoop snd s).sender, now := (senderLoop snd s).now, nowNext := (senderLoop snd s).nowNext,
      hostOut := (senderLoop snd s).hostOut }) := by
  rcases senderLoop_cases snd s with ⟨hm, h⟩ | ⟨hm, -, h⟩ | ⟨hm, -, h⟩
  · rcases senderExpiry_cases snd s with ⟨-, hx⟩ | ⟨-, hx⟩
    · obtain ⟨r, hr⟩ := finishSend_eq snd .timeout (watchdogFires (clockSampled s))
      rw [h, hx, hr, watchdogFires_eq]
      exact .inr (.inl rfl)
    · rw [h, hx]
      exact .inl ⟨hm, rfl⟩
  · rcases senderExpiry_cases
        { snd with k := snd.k + 1, sent := snd.sent + 1#8, tWait := (transmitFrame (chunk snd.data snd.k) s).now }
        (clockSampled (transmitFrame (chunk snd.data snd.k) s)) with ⟨-, hx⟩ | ⟨-, hx⟩
    · obtain ⟨r, hr⟩ := finishSend_eq
        { snd with k := snd.k + 1, sent := snd.sent + 1#8, tWait := (transmitFrame (chunk snd.data snd.k) s).now }
        .timeout (watchdogFires (clockSampled (clockSampled (transmitFrame (chunk snd.data snd.k) s))))
      rw [h, hx, hr, watchdogFires_eq, transmitFrame_eq]
      exact .inr (.inl rfl)
    · rw [h, hx]
      exact .inr (.inr ⟨hm, rfl⟩)
  · obtain ⟨r, hr⟩ := finishSend_eq { snd with k := snd.k + 1, sent := snd.sent + 1#8 } .ok
      (transmitFrame (chunk snd.data snd.k) s)
    rw [h, hr]
    exact .inr (.inr ⟨hm, rfl⟩)

/-! ## ROUTE_STEP -/

/-- R32, R34: `b` differs from `s` in what the router owns: queues, header latches, stopped pipes. -/
def RouterMoved (s b : State) : Prop :=
  ∃ q hdr valid err, b = { s with q := q, rtHdr := hdr, rtHdrValid := valid, rtErr := err }

theorem RouterMoved.refl (s : State) : RouterMoved s s := ⟨_, _, _, _, rfl⟩

/-- R240: the two ways a ROUTE_STEP ends. -/
inductive RouteOutcome (s : State) : State → Prop where
  /-- Answered at once; the conditions raised have the router's codes, 9 and above (R280). -/
  | answered (t : State) (cs : List Condition) (codes : ∀ c ∈ cs, 9 ≤ c.code)
      (frame : t = { s with
        q := t.q, rtHdr := t.rtHdr, rtHdrValid := t.rtHdrValid, rtErr := t.rtErr, conditions := s.conditions ++ cs,
        dispatchOut := t.dispatchOut, hostOut := t.hostOut }) : RouteOutcome s t
  /-- R254: a packet given to the sender, with the transmit address of its destination. -/
  | forwarded (b : State) (reply : SendReply) (data : List Byte) (addr : RadioAddr) (moved : RouterMoved s b) :
      RouteOutcome s (sendBytes reply data (writeTxAddr (addrHi addr) (addrLo addr) b))

/-- R240: an answer that raises nothing. -/
theorem RouteOutcome.silent {s b : State} (h : RouterMoved s b) (st : Status) (a : Action) :
    RouteOutcome s (respondAction st a b) := by
  obtain ⟨q, hdr, valid, err, rfl⟩ := h
  exact .answered _ [] nofun (by simp [respondAction, respond])

/-- R240, R280: an answer that raises one condition of the router. -/
theorem RouteOutcome.raised {s b : State} (h : RouterMoved s b) (st : Status) (a : Action) (c : Condition) (hc : 9 ≤ c.code) :
    RouteOutcome s (respondAction st a (raiseCond c b)) := by
  obtain ⟨q, hdr, valid, err, rfl⟩ := h
  exact .answered _ [c] (by simpa using hc) rfl

theorem localDispatch_outcome (h : Header) (data : List Byte) {s b : State} (hb : RouterMoved s b) :
    RouteOutcome s (localDispatch h data b) := by
  unfold localDispatch
  split
  · exact .raised hb _ _ _ (Nat.le_succ 9)
  · split
    · exact .raised hb _ _ _ (by decide : 9 ≤ 11)
    · obtain ⟨q, hdr, valid, err, rfl⟩ := hb
      exact .answered _ [] nofun (by simp [respondAction, respond, emitDispatch])

theorem routePacket_outcome (h : Header) (data : List Byte) {s b : State} (hb : RouterMoved s b) :
    RouteOutcome s (routePacket h data b) := by
  unfold routePacket
  split
  · exact localDispatch_outcome h data hb
  · split
    · exact .forwarded _ _ _ _ hb
    · exact .raised hb _ _ _ (by decide : 9 ≤ 12)
  · exact .forwarded _ _ _ _ hb

theorem dataPhase_outcome (p : Pipe) {s b : State} (hb : RouterMoved s b) : RouteOutcome s (dataPhase p b) := by
  rcases dataPhase_cases p b with ⟨-, h⟩ | ⟨-, h⟩
  · rw [h]
    exact .silent hb _ _
  · rw [h]
    obtain ⟨q, hdr, valid, err, rfl⟩ := hb
    exact routePacket_outcome _ _ ⟨_, _, _, _, rfl⟩

/-- R240: everything a ROUTE_STEP on a pipe can do. -/
theorem routePipe_outcome (p : Pipe) (s : State) : RouteOutcome s (routePipe p s) := by
  rcases routePipe_cases p s with ⟨-, h⟩ | ⟨-, -, h⟩ | ⟨-, -, h⟩
  · rw [h]
    exact .raised (.refl s) _ _ _ (Nat.le_refl 9)
  · rw [h]
    exact dataPhase_outcome p (.refl s)
  · rw [h]
    rcases headerPhase_cases p s with ⟨-, h⟩ | ⟨hd, -, -, -, h⟩ | ⟨hd, -, -, -, h⟩
    · rw [h]
      exact .silent (.refl s) _ _
    · rw [h]
      exact .answered _ [.routerErr p] (by simp [Condition.code]) rfl
    · rw [h]
      exact dataPhase_outcome p ⟨_, _, _, _, rfl⟩

end Sys2Proof.Machine

/-! SUPPORT. What a command does to the mode, the counters and the conditions (10_state R23, R31, 60_exceptions R283, R284). -/

namespace Sys2Proof.Machine

/-- R70: among the transactions from `s` to `t` is a payload write of a whole frame. -/
def FrameSent (s t : State) : Prop :=
  ∃ ops f, t.radioTrace = s.radioTrace ++ ops ∧ .writeTxPayload f ∈ ops ∧ f.length = 32

/-- What every command but INIT, and every iteration of the sender's wait, does to the mode and the counters. -/
structure CommandEffect (s t : State) : Prop where
  /-- R31: only a service counts invalid frames. -/
  cksum : t.cntCksumErr = s.cntCksumErr
  /-- R31, R13: the recovery path runs at most once. -/
  reset : t.cntReset = s.cntReset ∨ t.cntReset = satInc s.params s.cntReset
  /-- R283, R284: no invalid frame is recorded, and a firing of the watchdog is counted. -/
  conditions : ∃ cs, t.conditions = s.conditions ++ cs ∧ (∀ p, .checksumMismatch p ∉ cs) ∧
    (.txTimeout ∈ cs → t.cntReset = satInc s.params s.cntReset)
  /-- R301: Standby is left by INIT alone. -/
  standby : s.mode = .standby → s.sender = none → t.mode = .standby
  /-- R23: the mode stays, or the recovery path ran, or a frame was started. -/
  mode : t.mode = s.mode ∨ (t.mode = .receiving ∧ t.cntReset = satInc s.params s.cntReset) ∨
    (s.mode ≠ .transmitting ∧ t.mode = .transmitting ∧ FrameSent s t)

/-- What an operation leaves alone that only prepares another one: it may add transactions. -/
structure SameControl (s b : State) : Prop where
  mode : b.mode = s.mode
  sender : b.sender = s.sender
  params : b.params = s.params
  cksum : b.cntCksumErr = s.cntCksumErr
  reset : b.cntReset = s.cntReset
  conditions : b.conditions = s.conditions
  radioTrace : ∃ ops, b.radioTrace = s.radioTrace ++ ops

/-- R280: the conditions that no counter counts: neither `ChecksumMismatch`, code 2, nor `TxTimeout`, code 3. -/
def Uncounted (cs : List Condition) : Prop := ∀ c ∈ cs, c.code ≠ 2 ∧ c.code ≠ 3

theorem FrameSent.of_sameControl {s b t : State} (h : SameControl s b) (e : FrameSent b t) : FrameSent s t := by
  obtain ⟨ops, f, ht, hf, hl⟩ := e
  obtain ⟨pre, hb⟩ := h.radioTrace
  exact ⟨pre ++ ops, f, by rw [ht, hb, List.append_assoc], List.mem_append_right _ hf, hl⟩

theorem CommandEffect.of_sameControl {s b t : State} (h : SameControl s b) (e : CommandEffect b t) : CommandEffect s t where
  cksum := e.cksum.trans h.cksum
  reset := by simpa only [h.reset, h.params] using e.reset
  conditions := by simpa only [h.conditions, h.reset, h.params] using e.conditions
  standby := by simpa only [h.mode, h.sender] using e.standby
  mode := by
    have hmode := e.mode
    simp only [h.mode, h.reset, h.params] at hmode
    exact hmode.imp_right (Or.imp_right fun ⟨hs, ht, hf⟩ => ⟨hs, ht, hf.of_sameControl h⟩)

/-- A command that moves neither the mode nor a counter and raises nothing that is counted. -/
theorem CommandEffect.quiet {s t : State} (mode : t.mode = s.mode) (cksum : t.cntCksumErr = s.cntCksumErr)
    (reset : t.cntReset = s.cntReset) (cs : List Condition) (conditions : t.conditions = s.conditions ++ cs)
    (uncounted : Uncounted cs) : CommandEffect s t where
  cksum := cksum
  reset := .inl reset
  conditions := ⟨cs, conditions, fun _ hp => (uncounted _ hp).1 rfl, fun hp => absurd rfl (uncounted _ hp).2⟩
  standby hs _ := mode.trans hs
  mode := .inl mode

/-- A command that moves neither and raises nothing. -/
theorem CommandEffect.silent {s t : State} (mode : t.mode = s.mode) (cksum : t.cntCksumErr = s.cntCksumErr)
    (reset : t.cntReset = s.cntReset) (conditions : t.conditions = s.conditions) : CommandEffect s t :=
  .quiet mode cksum reset [] (by rw [conditions, List.append_nil]) nofun

/-- R282: a rejected operand. -/
theorem rejectArg_effect (o : Op) (v : Byte) (s : State) : CommandEffect s (rejectArg o v s) :=
  .quiet rfl rfl rfl [.invalidConfig (some v)] rfl (by simp [Uncounted, Condition.code])

/-- R105: behind the gate a command need only be looked at outside Standby. -/
theorem gate_effect (o : Op) {body : State → State} {s : State} (h : s.mode ≠ .standby → CommandEffect s (body s)) :
    CommandEffect s (gate o body s) := by
  by_cases hm : s.mode = .standby
  · rw [gate_closed o body s hm]
    exact .quiet rfl rfl rfl [.notInit] rfl (by simp [Uncounted, Condition.code])
  · rw [gate_open o body s hm]
    exact h hm

/-! ## The recovery path and the sender -/

/-- R185, R284: the recovery path enters receive and counts itself. -/
theorem CommandEffect.recovered {s t : State} (start : s.mode = .standby → s.sender ≠ none) (mode : t.mode = .receiving)
    (cksum : t.cntCksumErr = s.cntCksumErr) (reset : t.cntReset = satInc s.params s.cntReset) (cs : List Condition)
    (conditions : t.conditions = s.conditions ++ cs) (codes : ∀ c ∈ cs, c.code ≠ 2) : CommandEffect s t where
  cksum := cksum
  reset := .inr reset
  conditions := ⟨cs, conditions, fun _ hp => codes _ hp rfl, fun _ => reset⟩
  standby hs hn := absurd hn (start hs)
  mode := .inr (.inl ⟨mode, reset⟩)

/-- R182: a frame is started. -/
theorem CommandEffect.sent {s t : State} (start : s.mode = .standby → s.sender ≠ none) (idle : s.mode ≠ .transmitting)
    (mode : t.mode = .transmitting) (cksum : t.cntCksumErr = s.cntCksumErr) (reset : t.cntReset = s.cntReset)
    (conditions : t.conditions = s.conditions) (frame : FrameSent s t) : CommandEffect s t where
  cksum := cksum
  reset := .inl reset
  conditions := ⟨[], by rw [conditions, List.append_nil], nofun, nofun⟩
  standby hs hn := absurd hn (start hs)
  mode := .inr (.inr ⟨idle, mode, frame⟩)

/-- A response, or a change of the sender's transient, moves nothing more. -/
theorem CommandEffect.ending {s t : State} (h : CommandEffect s t) (snd : Option Sender) (out : List (List Byte)) :
    CommandEffect s { t with sender := snd, hostOut := out } :=
  ⟨h.cksum, h.reset, h.conditions, h.standby, h.mode⟩

theorem clockSampled_sameControl (s : State) : SameControl s (clockSampled s) :=
  ⟨rfl, rfl, rfl, rfl, rfl, rfl, [], (List.append_nil _).symm⟩

/-- R284: a firing of the watchdog, which is recorded. -/
theorem watchdogFires_effect {s : State} (hs : s.mode = .standby → s.sender ≠ none) : CommandEffect s (watchdogFires s) := by
  rw [watchdogFires_eq]
  exact .recovered hs rfl rfl rfl [.txTimeout] rfl (by simp [Condition.code])

/-- R185: the recovery path on the host's demand, which raises nothing. -/
theorem resetToReceive_effect {s : State} (hs : s.mode ≠ .standby) : CommandEffect s (resetToReceive s) := by
  rw [resetToReceive_eq]
  exact .recovered (absurd · hs) rfl rfl rfl [] (List.append_nil _).symm nofun

/-- R182: the transmit sequence starts a frame. -/
theorem transmitFrame_frameSent {data : List Byte} (s : State) (h : data.length ≤ 30) :
    FrameSent s (transmitFrame data s) :=
  ⟨_, frameOf data, by rw [transmitFrame_eq], by simp, frameOf_length data h⟩

/-- R181, R182, R284: the sender's loop waits, fires the watchdog, or starts a frame. -/
theorem senderLoop_effect (snd : Sender) {s : State} (hs : s.mode = .standby → s.sender ≠ none) :
    CommandEffect s (senderLoop snd s) := by
  rcases senderLoop_endings snd s with ⟨-, h⟩ | h | ⟨hm, h⟩ <;> rw [h]
  · exact .silent rfl rfl rfl rfl
  · exact .recovered hs rfl rfl rfl [.txTimeout] rfl (by simp [Condition.code])
  · exact .sent hs hm rfl rfl rfl rfl (transmitFrame_frameSent s (chunk_length_le snd.data snd.k))

/-- R183: a send begun outside Standby, after the transmit address may have been written. -/
theorem sendBytes_effect (reply : SendReply) (data : List Byte) {s b : State} (hb : SameControl s b) (hs : s.mode ≠ .standby) :
    CommandEffect s (sendBytes reply data b) :=
  (senderLoop_effect (s := clockSampled b) _ fun h => absurd (hb.mode.symm.trans h) hs)
    |>.of_sameControl (clockSampled_sameControl b)
    |>.of_sameControl hb

/-! ## The operations -/

theorem dataReadyBody_effect {s : State} (hs : s.mode ≠ .standby) : CommandEffect s (dataReadyBody s) := by
  unfold dataReadyBody
  split
  · split
    · exact (watchdogFires_effect (s := clockSampled s) fun h => absurd h hs).of_sameControl (clockSampled_sameControl s)
        |>.ending _ _
    · exact .silent rfl rfl rfl rfl
  · exact .silent rfl rfl rfl rfl

theorem RouteOutcome.effect {s t : State} (h : RouteOutcome s t) (hs : s.mode ≠ .standby) : CommandEffect s t := by
  cases h with
  | answered _ cs codes frame =>
    rw [frame]
    exact .quiet rfl rfl rfl cs rfl fun c hc => by have := codes c hc; omega
  | forwarded b reply data addr moved =>
    obtain ⟨q, hdr, valid, err, rfl⟩ := moved
    exact sendBytes_effect reply data ⟨rfl, rfl, rfl, rfl, rfl, rfl, _, rfl⟩ hs

/-- R23, R31: every host command but INIT has this effect. -/
theorem exec_effect {i : Instr} {s t : State} (hinit : i ≠ .init) (hirq : i ≠ .irqService) (h : exec i s = .next t) :
    CommandEffect s t := by
  cases i with
  | init => exact absurd rfl hinit
  | irqService => exact absurd rfl hirq
  | setChannel ch =>
    cases h
    refine gate_effect _ fun _ => ?_
    unfold setChannelBody
    split
    · exact .silent rfl rfl rfl rfl
    · exact rejectArg_effect _ _ _
  | setRxAddr pipe hi32 lo8 =>
    cases h
    refine gate_effect _ fun _ => ?_
    unfold setRxAddrBody
    split
    · exact rejectArg_effect _ _ _
    · next p _ => cases p <;> exact .silent rfl rfl rfl rfl
  | setTxAddr hi32 lo8 =>
    cases h
    exact gate_effect _ fun _ => .silent rfl rfl rfl rfl
  | enablePipes mask =>
    cases h
    refine gate_effect _ fun _ => ?_
    unfold enablePipesBody
    split
    · exact .silent rfl rfl rfl rfl
    · exact rejectArg_effect _ _ _
  | disablePipes mask =>
    cases h
    refine gate_effect _ fun _ => ?_
    unfold disablePipesBody
    split
    · exact .silent rfl rfl rfl rfl
    · exact rejectArg_effect _ _ _
  | writePayload data =>
    cases h
    exact gate_effect _ fun hs => sendBytes_effect .write data ⟨rfl, rfl, rfl, rfl, rfl, rfl, [], (List.append_nil _).symm⟩ hs
  | resetToRx =>
    cases h
    exact gate_effect _ fun hs => (resetToReceive_effect hs).ending _ _
  | dataReady =>
    cases h
    exact gate_effect _ dataReadyBody_effect
  | routeStep pipe =>
    cases h
    refine gate_effect _ fun hs => ?_
    unfold routeStepBody
    split
    · exact rejectArg_effect _ _ _
    · exact (routePipe_outcome _ s).effect hs
  | pipeCount pipe =>
    cases h
    split
    · exact rejectArg_effect _ _ _
    · exact .silent rfl rfl rfl rfl
  | pipeRead pipe =>
    cases h
    split
    · exact rejectArg_effect _ _ _
    · next p _ =>
      cases hq : s.q.get p <;> simp only [queuePop, hq]
      · exact .quiet rfl rfl rfl [.empty p] rfl (by simp [Uncounted, Condition.code])
      · exact .silent rfl rfl rfl rfl
  | encodeFrame data =>
    cases h
    split
    · exact rejectArg_effect _ _ _
    · exact .silent rfl rfl rfl rfl
  | getCksumErr | getResetCnt | getMode | checksum data | decodeFrame frame =>
    cases h
    exact .silent rfl rfl rfl rfl

end Sys2Proof.Machine

/-! SUPPORT. Everything a step can do that is no hardware reset, by the agent that moves (20_memory R76). -/

namespace Sys2Proof.Machine

/-- R78: while a command waits the foreground goes on with it. -/
theorem foregroundStep_of_sender {s : State} {snd : Sender} (hs : s.sender = some snd) :
    foregroundStep s = .next (senderLoop snd s) := by
  rw [foregroundStep, hs]

/-- R76(a): with nothing to do it rests. -/
theorem foregroundStep_of_idle {s : State} (hs : s.sender = none) (hi : s.hostIn = []) : foregroundStep s = .next s := by
  rw [foregroundStep, hs, hi]

/-- R100: otherwise it takes the oldest message. -/
theorem foregroundStep_of_message {s : State} {m : Message} {ms : List Message} (hs : s.sender = none)
    (hi : s.hostIn = m :: ms) : foregroundStep s = runMessage m { s with hostIn := ms } := by
  rw [foregroundStep, hs, hi]

/-- R76: apart from the reset input, a step is the foreground's, an interrupt service, or a move of the environment. -/
theorem step_cases {s t : State} (h : step s = .next t) (hr : ¬ ResetNext s) :
    (ForegroundNext s ∧ foregroundStep (moved s) = .next t) ∨
    (nextMove s = .interrupt ∧ s.irqEn = true ∧ s.irqPend = true ∧ exec .irqService (moved s) = .next t) ∨
    (¬ ForegroundNext s ∧ t = { s with
      irqPend := t.irqPend, now := t.now, nowNext := t.nowNext, radioStatus := t.radioStatus, radioFrame := t.radioFrame,
      irqLine := t.irqLine, agenda := t.agenda, hostIn := t.hostIn }) := by
  rw [step_eq_perform] at h
  unfold ForegroundNext
  cases hm : nextMove s with
  | foreground =>
    rw [hm] at h
    exact .inl ⟨rfl, h⟩
  | interrupt =>
    rw [hm] at h
    rcases interruptStep_cases (moved s) with ⟨he, hp, hi⟩ | ⟨-, hi⟩
    · exact .inr (.inl ⟨rfl, he, hp, hi.symm.trans h⟩)
    · cases hi.symm.trans h
      exact .inr (.inr ⟨nofun, rfl⟩)
  | reset u => exact absurd ⟨u, hm⟩ hr
  | submit _ | clock _ _ | status _ | rxFrame _ | irqLine _ =>
    rw [hm] at h
    cases h
    exact .inr (.inr ⟨nofun, rfl⟩)

/-- R130: the transactions of INIT, in order; they depend on the build alone. -/
def initTransactions (p : Params) : List RadioOp :=
  [.ce false, .writeReg .rfCh [p.defaultChannel.setWidth 8], .writeReg (.rxPw .p0) [32#8], .writeReg (.rxPw .p1) [32#8],
    .writeReg (.rxPw .p2) [32#8], .writeReg (.rxPw .p3) [32#8], .writeReg (.rxPw .p4) [32#8], .writeReg (.rxPw .p5) [32#8],
    .writeReg .enRxaddr [p.initPipeMask.setWidth 8], .flushTx, .flushRx, .clearFlags true true true, .setMode .rx, .ce true]

/-- R130, everything the sequence of INIT does. -/
theorem initSequence_eq (s : State) :
    initSequence s =
      { s with
        mode := .receiving, ce := true, irqEn := true, irqPend := false, cfgChannel := s.params.defaultChannel,
        cfgPipeEn := s.params.initPipeMask, radioTrace := s.radioTrace ++ initTransactions s.params } := by
  simp [initSequence, writeChannel, writePipeMask, writePayloadWidths, Pipe.list, transact, driveCe, initTransactions]

/-- R130, R131: INIT answers in any mode. -/
theorem exec_init_eq (s : State) : exec .init s = .next (respond .ok [] (initSequence s)) := rfl

/-- R130, R131: what INIT does to the mode, the counters and the conditions. -/
theorem exec_init_control {s t : State} (h : exec .init s = .next t) :
    t.mode = .receiving ∧ t.cntCksumErr = s.cntCksumErr ∧ t.cntReset = s.cntReset ∧ t.conditions = s.conditions := by
  rw [exec_init_eq, initSequence_eq] at h
  cases h
  exact ⟨rfl, rfl, rfl, rfl⟩

theorem answerMalformed_effect (e : DecodeError) (s : State) : CommandEffect s (answerMalformed e s) := by
  cases e with
  | unknownOp op => exact .quiet rfl rfl rfl [.unknownOp op] rfl (by simp [Uncounted, Condition.code])
  | badLength o => exact .quiet rfl rfl rfl [.invalidConfig none] rfl (by simp [Uncounted, Condition.code])

/-- R23, R31: a foreground step has the effect of a command, or executes INIT. -/
theorem foregroundStep_effect {s t : State} (h : foregroundStep s = .next t) :
    CommandEffect s t ∨ ∃ ms, s.hostIn = ⟨0x01#8, []⟩ :: ms ∧ exec .init { s with hostIn := ms } = .next t := by
  have htake : ∀ ms, SameControl s { s with hostIn := ms } :=
    fun _ => ⟨rfl, rfl, rfl, rfl, rfl, rfl, [], (List.append_nil _).symm⟩
  rcases foregroundStep_cases s with ⟨snd, hs, hf⟩ | ⟨-, -, hf⟩ | ⟨m, ms, i, -, hi, hd, hf⟩ | ⟨m, ms, e, -, -, -, hf⟩
  · cases hf.symm.trans h
    exact .inl (senderLoop_effect snd fun _ hn => by simp [hs] at hn)
  · cases hf.symm.trans h
    exact .inl (.silent rfl rfl rfl rfl)
  · rw [hf] at h
    by_cases hinit : i = .init
    · subst hinit
      obtain rfl := message_of_decode_init hd
      exact .inr ⟨ms, hi, h⟩
    · exact .inl ((exec_effect hinit (decodeMessage_ne_irqService hd) h).of_sameControl (htake ms))
  · cases hf.symm.trans h
    exact .inl ((answerMalformed_effect e _).of_sameControl (htake ms))

/-- Taking a move off the agenda leaves the mode, the counters and the trace alone. -/
theorem moved_sameControl (s : State) : SameControl s (moved s) :=
  ⟨rfl, rfl, rfl, rfl, rfl, rfl, [], (List.append_nil _).symm⟩

/-! ## The mode (10_state R23) -/

/-- R182, R183: the frames of the transactions between `s` and `t`. -/
theorem FrameSent.mem_framesWritten {s t : State} (h : FrameSent s t) :
    ∃ f ∈ framesWritten (t.radioTrace.drop s.radioTrace.length), f.length = 32 := by
  obtain ⟨ops, f, ht, hf, hl⟩ := h
  refine ⟨f, ?_, hl⟩
  rw [ht, List.drop_left]
  exact List.mem_filterMap.2 ⟨_, hf, rfl⟩

/-- R23: the transitions a foreground step makes, in a state with no live sender in Standby. -/
theorem foreground_mode_transitions {s t : State} (hq : StandbyQuiet s)
    (h : foregroundStep (moved s) = .next t) (hne : t.mode ≠ s.mode) :
    (s.mode = .standby ∧ t.mode = .receiving ∧ ∃ ms, s.hostIn = ⟨0x01#8, []⟩ :: ms) ∨
    (s.mode = .receiving ∧ t.mode = .transmitting ∧ FrameSent s t) ∨
    (s.mode = .transmitting ∧ t.mode = .receiving ∧
      ((∃ ms, s.hostIn = ⟨0x01#8, []⟩ :: ms) ∨ t.cntReset = satInc s.params s.cntReset)) := by
  rcases foregroundStep_effect h with e | ⟨ms, hi, hx⟩
  · replace e := e.of_sameControl (moved_sameControl s)
    have hns : s.mode ≠ .standby := fun hs => hne ((e.standby hs (hq hs).2.2).trans hs.symm)
    rcases e.mode with hm | ⟨hm, hc⟩ | ⟨hs, hm, hfr⟩
    · exact absurd hm hne
    · cases hs : s.mode with
      | standby => exact absurd hs hns
      | receiving => exact absurd (hm.trans hs.symm) hne
      | transmitting => exact .inr (.inr ⟨rfl, hm, .inr hc⟩)
    · cases hs' : s.mode with
      | standby => exact absurd hs' hns
      | receiving => exact .inr (.inl ⟨rfl, hm, hfr⟩)
      | transmitting => exact absurd hs' hs
  · obtain ⟨hm, -⟩ := exec_init_control hx
    cases hs : s.mode with
    | standby => exact .inl ⟨rfl, hm, ms, hi⟩
    | receiving => exact absurd (hm.trans hs.symm) hne
    | transmitting => exact .inr (.inr ⟨rfl, hm, .inl ⟨ms, hi⟩⟩)

/-- R211: a service moves the mode only when it serves a completion, into Receiving. -/
theorem exec_irqService_mode {s t : State} (h : exec .irqService s = .next t) (hne : t.mode ≠ s.mode) :
    (s.radioStatus.txDs = true ∨ s.radioStatus.maxRt = true) ∧ t.mode = .receiving := by
  rcases exec_irqService_cases s with ⟨hc, tr, hx⟩ | ⟨-, p, tr, q, n, hx⟩ | ⟨-, p, tr, hx⟩ | ⟨-, tr, cs, -, hx⟩ <;>
    cases hx.symm.trans h
  · exact ⟨hc, rfl⟩
  all_goals exact absurd rfl hne

/-- Settles O55: a reset leads to Standby; the other transitions are split by the agent that makes them. -/
theorem modeTransitions : Obligations.ModeTransitions := by
  intro s t hinv h hne
  by_cases hr : ResetNext s
  · obtain ⟨u, hu⟩ := hr
    rw [step_eq_perform, hu] at h
    cases h
    exact .inl ⟨⟨u, hu⟩, rfl⟩
  rcases step_cases h hr with ⟨hf, hx⟩ | ⟨hi, he, hp, hx⟩ | ⟨-, hx⟩
  · rcases foreground_mode_transitions hinv.standby hx hne with ⟨hs, ht, hm⟩ | ⟨hs, ht, hfr⟩ | ⟨hs, ht, hc⟩
    · exact .inr (.inl ⟨hf, hs, ht, hm⟩)
    · exact .inr (.inr (.inl ⟨hf, hs, ht, hfr.mem_framesWritten⟩))
    · exact .inr (.inr (.inr (.inr ⟨hf, hs, ht, hc⟩)))
  · obtain ⟨hc, ht⟩ := exec_irqService_mode hx hne
    exact .inr (.inr (.inr (.inl ⟨hi, he, hp, hc, ht⟩)))
  · exact absurd (congrArg State.mode hx) hne

/-! ## The counters (10_state R31) -/

theorem le_satInc (p : Params) (c : Nat) : c ≤ satInc p c := by
  unfold satInc
  split <;> omega

theorem satInc_le_succ (p : Params) (c : Nat) : satInc p c ≤ c + 1 := by
  unfold satInc
  split <;> omega

/-- R31, R283, R284: what a step adds to the conditions, and the counters that grow with them. -/
def CountedConditions (s t : State) : Prop :=
  ∃ cs, t.conditions = s.conditions ++ cs ∧ (.txTimeout ∈ cs → t.cntReset = satInc s.params s.cntReset) ∧
    ((∃ p, .checksumMismatch p ∈ cs) → t.cntCksumErr = satInc s.params s.cntCksumErr)

/-- R31, R284: a foreground step leaves `cnt_cksum_err` alone and counts at most one run of the recovery path. -/
theorem foregroundStep_counters {s t : State} (h : foregroundStep s = .next t) :
    t.cntCksumErr = s.cntCksumErr ∧ (t.cntReset = s.cntReset ∨ t.cntReset = satInc s.params s.cntReset) ∧
      CountedConditions s t := by
  rcases foregroundStep_effect h with e | ⟨ms, -, hx⟩
  · obtain ⟨cs, hcs, hno, hto⟩ := e.conditions
    exact ⟨e.cksum, e.reset, cs, hcs, hto, fun ⟨p, hp⟩ => absurd hp (hno p)⟩
  · obtain ⟨-, hck, hrs, hcs⟩ := exec_init_control hx
    exact ⟨hck, .inl hrs, [], by simpa using hcs, nofun, nofun⟩

/-- R31, R283: a service leaves `cnt_reset` alone and counts at most one invalid frame. -/
theorem exec_irqService_counters {s t : State} (h : exec .irqService s = .next t) :
    (t.cntCksumErr = s.cntCksumErr ∨ t.cntCksumErr = satInc s.params s.cntCksumErr) ∧ t.cntReset = s.cntReset ∧
      CountedConditions s t := by
  rcases exec_irqService_cases s with ⟨-, tr, hx⟩ | ⟨-, p, tr, q, n, hx⟩ | ⟨-, p, tr, hx⟩ | ⟨-, tr, cs, hcs, hx⟩ <;>
    cases hx.symm.trans h
  · exact ⟨.inl rfl, rfl, [], (List.append_nil _).symm, nofun, nofun⟩
  · exact ⟨.inl rfl, rfl, _, rfl, by simp, by simp⟩
  · exact ⟨.inr rfl, rfl, _, rfl, by simp, fun _ => rfl⟩
  · refine ⟨.inl rfl, rfl, cs, rfl, fun hm => ?_, fun ⟨p, hm⟩ => ?_⟩
    · obtain ⟨v, hv⟩ := hcs _ hm
      cases hv
    · obtain ⟨v, hv⟩ := hcs _ hm
      cases hv

/-- R31, R299: every step but a hardware reset. -/
theorem step_counters {s t : State} (h : step s = .next t) (hr : ¬ ResetNext s) :
    s.cntCksumErr ≤ t.cntCksumErr ∧ t.cntCksumErr ≤ s.cntCksumErr + 1 ∧
    s.cntReset ≤ t.cntReset ∧ t.cntReset ≤ s.cntReset + 1 ∧
    (t.cntCksumErr ≠ s.cntCksumErr → nextMove s = .interrupt ∧ s.irqEn = true ∧ s.irqPend = true) ∧
    (t.cntReset ≠ s.cntReset → ForegroundNext s) ∧ CountedConditions s t := by
  have hle := le_satInc s.params
  have hsucc := satInc_le_succ s.params
  rcases step_cases h hr with ⟨hf, hx⟩ | ⟨hi, he, hp, hx⟩ | ⟨-, hx⟩
  · obtain ⟨hck, hrs, hcs⟩ := foregroundStep_counters hx
    have := hle s.cntReset
    have := hsucc s.cntReset
    simp only [moved] at hck hrs
    exact ⟨by omega, by omega, by omega, by omega, fun hne => absurd hck hne, fun _ => hf, hcs⟩
  · obtain ⟨hck, hrs, hcs⟩ := exec_irqService_counters hx
    have := hle s.cntCksumErr
    have := hsucc s.cntCksumErr
    simp only [moved] at hck hrs
    exact ⟨by omega, by omega, by omega, by omega, fun _ => ⟨hi, he, hp⟩, fun hne => absurd hrs hne, hcs⟩
  · have hck : t.cntCksumErr = s.cntCksumErr := (congrArg State.cntCksumErr hx :)
    have hrs : t.cntReset = s.cntReset := (congrArg State.cntReset hx :)
    have hcs : t.conditions = s.conditions := (congrArg State.conditions hx :)
    exact ⟨by omega, by omega, by omega, by omega, fun hne => absurd hck hne, fun hne => absurd hrs hne, [],
      by simpa using hcs, nofun, nofun⟩

/-- R187: past the timeout the predicate holds. -/
theorem expired_of_lt {p : Params} {n t : Clock} (h : p.txTimeoutMs.toNat < (n - t).toNat) : expired p n t = true :=
  decide_eq_true h

/-- R284: the counters after the watchdog has ended a write. -/
theorem finishSend_timeout_counters (snd : Sender) (s : State) :
    (finishSend snd .timeout (watchdogFires (clockSampled s))).cntCksumErr = s.cntCksumErr ∧
      (finishSend snd .timeout (watchdogFires (clockSampled s))).cntReset = satInc s.params s.cntReset := by
  obtain ⟨r, hr⟩ := finishSend_eq snd .timeout (watchdogFires (clockSampled s))
  rw [hr, watchdogFires_eq]
  exact ⟨rfl, rfl⟩

/-- R284: the step of a waiting command past its timeout fires the watchdog. -/
theorem step_of_expired_wait {s : State} {snd : Sender} (hf : ForegroundNext s) (hs : s.sender = some snd)
    (hm : s.mode = .transmitting) (ht : s.params.txTimeoutMs.toNat < (s.now - snd.tWait).toNat) :
    step s = .next (finishSend snd .timeout (watchdogFires (clockSampled (moved s)))) := by
  rw [step_of_foreground s hf, foregroundStep_of_sender (s := moved s) hs]
  rcases senderLoop_cases snd (moved s) with ⟨-, hl⟩ | ⟨hn, -⟩ | ⟨hn, -⟩
  · rcases senderExpiry_cases snd (moved s) with ⟨-, he⟩ | ⟨hx, -⟩
    · exact congrArg _ (hl.trans he)
    · exact absurd ((expired_of_lt ht).symm.trans hx) nofun
  all_goals exact absurd hm hn

/-- R186: RESET_TO_RX outside Standby. -/
theorem exec_resetToRx_of_active {s : State} (hs : s.mode ≠ .standby) :
    exec .resetToRx s = .next (respond .ok [] (resetToReceive s)) :=
  congrArg Host.Outcome.next (gate_open _ _ s hs)

/-- R283: a service of an invalid frame counts it. -/
theorem exec_irqService_invalid {s : State} {p : Pipe} (htx : s.radioStatus.txDs = false) (hmax : s.radioStatus.maxRt = false)
    (hrx : s.radioStatus.rxDr = true) (hp : s.radioStatus.rxPNo.toNat = p.num) (hlen : s.radioFrame.length = 32)
    (hv : (decodeFrameOf s.radioFrame).valid = false) :
    ∃ t, exec .irqService s = .next t ∧ t.cntReset = s.cntReset ∧ t.cntCksumErr = satInc s.params s.cntCksumErr := by
  rw [← frame32_of_length _ hlen] at hv
  have hpipe : Pipe.ofField? s.radioStatus.rxPNo = some p := (Pipe.ofNat?_eq_some _ _).2 hp
  rcases exec_irqService_cases s with ⟨hc, -⟩ | ⟨hv', -⟩ | ⟨-, p, tr, hx⟩ | ⟨hn, -⟩
  · simp [htx, hmax] at hc
  · simp [hv] at hv'
  · exact ⟨_, hx, rfl, rfl⟩
  · simp [hrx, hpipe] at hn

/-- Settles O57: the step's effect on the counters, and each counted event on its own; `satInc` written out is R13's rule. -/
theorem countersAreMonotone : Obligations.CountersAreMonotone := by
  refine ⟨fun s t h hr => step_counters h hr, fun p c => ⟨satInc_of_lt p c, fun h => satInc_of_le p c h.ge⟩, ?_, ?_, ?_⟩
  · intro s hs
    refine ⟨_, exec_resetToRx_of_active hs, ?_⟩
    rw [resetToReceive_eq]
    exact ⟨rfl, rfl⟩
  · intro s snd hf hs hm ht
    obtain ⟨hck, hrs⟩ := finishSend_timeout_counters snd (moved s)
    exact ⟨_, step_of_expired_wait hf hs hm ht, hck, hrs⟩
  · intro s p htx hmax hrx hp hlen hv
    exact exec_irqService_invalid htx hmax hrx hp hlen hv

end Sys2Proof.Machine

/-! SUPPORT. Which operation writes which configuration register (10_state R20, R26). -/

namespace Sys2Proof.Machine

/-- No configuration register and no build parameter differs (R21, R83). -/
structure SameConfiguration (s t : State) : Prop where
  params : t.params = s.params
  channel : t.cfgChannel = s.cfgChannel
  pipeEn : t.cfgPipeEn = s.cfgPipeEn
  rxHi0 : t.cfgRxHi0 = s.cfgRxHi0
  rxHi1 : t.cfgRxHi1 = s.cfgRxHi1
  rxLo : t.cfgRxLo = s.cfgRxLo
  txHi : t.cfgTxHi = s.cfgTxHi
  txLo : t.cfgTxLo = s.cfgTxLo

/-- R20: a register differs only when the operation is one of its writers. -/
structure WritesOwnRegisters (i : Instr) (s t : State) : Prop where
  params : t.params = s.params
  channel : i ≠ .init → (∀ ch, i ≠ .setChannel ch) → t.cfgChannel = s.cfgChannel
  pipeEn : i ≠ .init → (∀ m, i ≠ .enablePipes m) → (∀ m, i ≠ .disablePipes m) → t.cfgPipeEn = s.cfgPipeEn
  rxAddr : (∀ a h l, i ≠ .setRxAddr a h l) →
    t.cfgRxHi0 = s.cfgRxHi0 ∧ t.cfgRxHi1 = s.cfgRxHi1 ∧ t.cfgRxLo = s.cfgRxLo
  txAddr : (∀ h l, i ≠ .setTxAddr h l) → (∀ a, i ≠ .routeStep a) → t.cfgTxHi = s.cfgTxHi ∧ t.cfgTxLo = s.cfgTxLo

/-- An operation that writes no register is within its bounds, whichever it is. -/
theorem SameConfiguration.writesOwn {s t : State} (h : SameConfiguration s t) (i : Instr) : WritesOwnRegisters i s t :=
  ⟨h.params, fun _ _ => h.channel, fun _ _ _ => h.pipeEn, fun _ => ⟨h.rxHi0, h.rxHi1, h.rxLo⟩,
    fun _ _ => ⟨h.txHi, h.txLo⟩⟩

theorem SameConfiguration.respond {s t : State} {st : Status} {r : List Byte} (h : SameConfiguration s t) :
    SameConfiguration s (respond st r t) :=
  ⟨h.params, h.channel, h.pipeEn, h.rxHi0, h.rxHi1, h.rxLo, h.txHi, h.txLo⟩

/-- R104: a response writes no register. -/
theorem respond_sameConfiguration (st : Status) (r : List Byte) (s : State) : SameConfiguration s (respond st r s) :=
  ⟨rfl, rfl, rfl, rfl, rfl, rfl, rfl, rfl⟩

/-- R281: neither does a condition raised with it. -/
theorem respond_raiseCond_sameConfiguration (st : Status) (r : List Byte) (c : Condition) (s : State) :
    SameConfiguration s (respond st r (raiseCond c s)) :=
  ⟨rfl, rfl, rfl, rfl, rfl, rfl, rfl, rfl⟩

/-- R105: a closed gate writes nothing. -/
theorem gate_writesOwn (o : Op) {i : Instr} {body : State → State} {s : State} (h : WritesOwnRegisters i s (body s)) :
    WritesOwnRegisters i s (gate o body s) := by
  by_cases hm : s.mode = .standby
  · rw [gate_closed o body s hm]
    exact (respond_raiseCond_sameConfiguration _ _ _ _).writesOwn _
  · rw [gate_open o body s hm]
    exact h

/-- R26: the sender writes no register. -/
theorem senderLoop_sameConfiguration (snd : Sender) (s : State) : SameConfiguration s (senderLoop snd s) := by
  constructor <;> rw [senderLoop_frame]

theorem sendBytes_sameConfiguration (reply : SendReply) (data : List Byte) (s : State) :
    SameConfiguration s (sendBytes reply data s) :=
  have h := senderLoop_sameConfiguration
    { data := data, len := BitVec.ofNat 8 data.length, k := 0, sent := 0#8, tWait := s.now, reply := reply } (clockSampled s)
  ⟨h.params, h.channel, h.pipeEn, h.rxHi0, h.rxHi1, h.rxLo, h.txHi, h.txLo⟩

/-- R26, R254: a ROUTE_STEP writes the transmit address at most. -/
theorem RouteOutcome.writesOwn {s t : State} (h : RouteOutcome s t) (pipe : Byte) : WritesOwnRegisters (.routeStep pipe) s t := by
  cases h with
  | answered _ cs _ frame =>
    have h : SameConfiguration s t := by
      rw [frame]
      exact ⟨rfl, rfl, rfl, rfl, rfl, rfl, rfl, rfl⟩
    exact h.writesOwn _
  | forwarded b reply data addr moved =>
    obtain ⟨q, hdr, valid, err, rfl⟩ := moved
    have h := sendBytes_sameConfiguration reply data (writeTxAddr (addrHi addr) (addrLo addr)
      { s with q := q, rtHdr := hdr, rtHdrValid := valid, rtErr := err })
    exact ⟨h.params, fun _ _ => h.channel, fun _ _ _ => h.pipeEn, fun _ => ⟨h.rxHi0, h.rxHi1, h.rxLo⟩,
      fun _ hr => absurd rfl (hr pipe)⟩

/-- R26, R210: a service writes no register. -/
theorem exec_irqService_sameConfiguration {s t : State} (h : exec .irqService s = .next t) : SameConfiguration s t := by
  rcases exec_irqService_cases s with ⟨-, tr, hx⟩ | ⟨-, p, tr, q, n, hx⟩ | ⟨-, p, tr, hx⟩ | ⟨-, tr, cs, -, hx⟩ <;>
    cases hx.symm.trans h <;> exact ⟨rfl, rfl, rfl, rfl, rfl, rfl, rfl, rfl⟩

/-- R185: neither does the recovery path. -/
theorem watchdogFires_sameConfiguration (s : State) : SameConfiguration s (watchdogFires s) := by
  rw [watchdogFires_eq]
  exact ⟨rfl, rfl, rfl, rfl, rfl, rfl, rfl, rfl⟩

theorem resetToReceive_sameConfiguration (s : State) : SameConfiguration s (resetToReceive s) := by
  rw [resetToReceive_eq]
  exact ⟨rfl, rfl, rfl, rfl, rfl, rfl, rfl, rfl⟩

theorem dataReadyBody_sameConfiguration (s : State) : SameConfiguration s (dataReadyBody s) := by
  unfold dataReadyBody
  split
  · split
    · have h := watchdogFires_sameConfiguration (clockSampled s)
      exact ⟨h.params, h.channel, h.pipeEn, h.rxHi0, h.rxHi1, h.rxLo, h.txHi, h.txLo⟩
    · exact ⟨rfl, rfl, rfl, rfl, rfl, rfl, rfl, rfl⟩
  · exact ⟨rfl, rfl, rfl, rfl, rfl, rfl, rfl, rfl⟩

/-- R20, R26: every operation writes its own registers at most. -/
theorem exec_writesOwn {i : Instr} {s t : State} (h : exec i s = .next t) : WritesOwnRegisters i s t := by
  cases i with
  | init =>
    rw [exec_init_eq, initSequence_eq] at h
    cases h
    exact ⟨rfl, fun hi _ => absurd rfl hi, fun hi _ _ => absurd rfl hi, fun _ => ⟨rfl, rfl, rfl⟩, fun _ _ => ⟨rfl, rfl⟩⟩
  | setChannel ch =>
    cases h
    refine gate_writesOwn _ ?_
    unfold setChannelBody
    split
    · exact ⟨rfl, fun _ hc => absurd rfl (hc ch), fun _ _ _ => rfl, fun _ => ⟨rfl, rfl, rfl⟩, fun _ _ => ⟨rfl, rfl⟩⟩
    · exact (respond_raiseCond_sameConfiguration _ _ _ _).writesOwn _
  | setRxAddr pipe hi32 lo8 =>
    cases h
    refine gate_writesOwn _ ?_
    unfold setRxAddrBody
    split
    · exact (respond_raiseCond_sameConfiguration _ _ _ _).writesOwn _
    · next p _ =>
      cases p <;>
        exact ⟨rfl, fun _ _ => rfl, fun _ _ _ => rfl, fun hc => absurd rfl (hc pipe hi32 lo8), fun _ _ => ⟨rfl, rfl⟩⟩
  | setTxAddr hi32 lo8 =>
    cases h
    exact gate_writesOwn _
      ⟨rfl, fun _ _ => rfl, fun _ _ _ => rfl, fun _ => ⟨rfl, rfl, rfl⟩, fun hc _ => absurd rfl (hc hi32 lo8)⟩
  | enablePipes mask =>
    cases h
    refine gate_writesOwn _ ?_
    unfold enablePipesBody
    split
    · exact ⟨rfl, fun _ _ => rfl, fun _ hc _ => absurd rfl (hc mask), fun _ => ⟨rfl, rfl, rfl⟩, fun _ _ => ⟨rfl, rfl⟩⟩
    · exact (respond_raiseCond_sameConfiguration _ _ _ _).writesOwn _
  | disablePipes mask =>
    cases h
    refine gate_writesOwn _ ?_
    unfold disablePipesBody
    split
    · exact ⟨rfl, fun _ _ => rfl, fun _ _ hc => absurd rfl (hc mask), fun _ => ⟨rfl, rfl, rfl⟩, fun _ _ => ⟨rfl, rfl⟩⟩
    · exact (respond_raiseCond_sameConfiguration _ _ _ _).writesOwn _
  | routeStep pipe =>
    cases h
    refine gate_writesOwn _ ?_
    unfold routeStepBody
    split
    · exact (respond_raiseCond_sameConfiguration _ _ _ _).writesOwn _
    · exact (routePipe_outcome _ s).writesOwn pipe
  | writePayload data =>
    cases h
    exact gate_writesOwn _ ((sendBytes_sameConfiguration .write data s).writesOwn _)
  | resetToRx =>
    cases h
    exact gate_writesOwn _ ((resetToReceive_sameConfiguration s).respond.writesOwn _)
  | dataReady =>
    cases h
    exact gate_writesOwn _ ((dataReadyBody_sameConfiguration s).writesOwn _)
  | irqService => exact (exec_irqService_sameConfiguration h).writesOwn _
  | pipeCount pipe =>
    cases h
    split
    · exact (respond_raiseCond_sameConfiguration _ _ _ _).writesOwn _
    · exact (respond_sameConfiguration _ _ _).writesOwn _
  | pipeRead pipe =>
    cases h
    split
    · exact (respond_raiseCond_sameConfiguration _ _ _ _).writesOwn _
    · next p _ =>
      cases hq : s.q.get p with
      | nil =>
        simp only [queuePop, hq]
        exact (respond_raiseCond_sameConfiguration _ _ _ _).writesOwn _
      | cons b bs =>
        simp only [queuePop, hq]
        have h : SameConfiguration s { s with q := s.q.set p bs } := ⟨rfl, rfl, rfl, rfl, rfl, rfl, rfl, rfl⟩
        exact h.respond.writesOwn _
  | encodeFrame data =>
    cases h
    split
    · exact (respond_raiseCond_sameConfiguration _ _ _ _).writesOwn _
    · exact (respond_sameConfiguration _ _ _).writesOwn _
  | getCksumErr | getResetCnt | getMode | checksum data | decodeFrame frame =>
    cases h
    exact (respond_sameConfiguration _ _ _).writesOwn _

/-- R83: a foreground step changes no build parameter. -/
theorem foregroundStep_params {s t : State} (h : foregroundStep s = .next t) : t.params = s.params := by
  rcases foregroundStep_cases s with ⟨snd, -, hf⟩ | ⟨-, -, hf⟩ | ⟨m, ms, i, -, -, -, hf⟩ | ⟨m, ms, e, -, -, -, hf⟩
  · cases hf.symm.trans h
    exact (senderLoop_sameConfiguration snd s).params
  · cases hf.symm.trans h
    rfl
  · exact (exec_writesOwn (hf.symm.trans h)).params
  · cases hf.symm.trans h
    cases e <;> rfl

/-- R26: a foreground step that goes on with a waiting command writes no register. -/
theorem foregroundStep_sameConfiguration {s t : State} (hs : s.sender ≠ none) (h : foregroundStep s = .next t) :
    SameConfiguration s t := by
  obtain ⟨snd, hsnd⟩ := Option.ne_none_iff_exists'.1 hs
  cases (foregroundStep_of_sender hsnd).symm.trans h
  exact senderLoop_sameConfiguration snd s

/-- R83: no step changes a build parameter, a hardware reset included. -/
theorem step_params {s t : State} (h : step s = .next t) : t.params = s.params := by
  by_cases hr : ResetNext s
  · obtain ⟨u, hu⟩ := hr
    rw [step_eq_perform, hu] at h
    cases h
    rfl
  rcases step_cases h hr with ⟨-, hx⟩ | ⟨-, -, -, hx⟩ | ⟨-, hx⟩
  · exact foregroundStep_params (s := moved s) hx
  · exact (exec_irqService_sameConfiguration hx).params
  · exact (congrArg State.params hx :)

/-- R26: the steps that begin no command write no register, hardware reset aside. -/
theorem step_sameConfiguration {s t : State} (h : step s = .next t) (hr : ¬ ResetNext s)
    (hs : ¬ ForegroundNext s ∨ s.sender ≠ none) : SameConfiguration s t := by
  rcases step_cases h hr with ⟨hf, hx⟩ | ⟨-, -, -, hx⟩ | ⟨-, hx⟩
  · have e := foregroundStep_sameConfiguration (s := moved s) (hs.resolve_left (absurd hf)) hx
    exact ⟨e.params, e.channel, e.pipeEn, e.rxHi0, e.rxHi1, e.rxLo, e.txHi, e.txLo⟩
  · have e := exec_irqService_sameConfiguration hx
    exact ⟨e.params, e.channel, e.pipeEn, e.rxHi0, e.rxHi1, e.rxLo, e.txHi, e.txLo⟩
  · rw [hx]
    exact ⟨rfl, rfl, rfl, rfl, rfl, rfl, rfl, rfl⟩

/-- Settles O56: each operation's writes, and the steps that write nothing. -/
theorem configurationWriters : Obligations.ConfigurationWriters := by
  refine ⟨fun i s t h => ?_, fun s t h => ⟨step_params h, fun hr hs => ?_⟩⟩
  · have e := exec_writesOwn h
    exact ⟨e.channel, e.pipeEn, e.rxAddr, e.txAddr⟩
  · have e := step_sameConfiguration h hr hs
    exact ⟨e.channel, e.pipeEn, e.rxHi0, e.rxHi1, e.rxLo, e.txHi, e.txLo⟩

end Sys2Proof.Machine

/-! SUPPORT. Addresses (10_state R25), the interrupt latch (R28) and the invariant after reset (R45). -/

namespace Sys2Proof.Machine

/-! ## The addresses -/

/-- R25: the receive address of a pipe from 2 on has pipe 1's upper bytes. -/
theorem rxAddress_of_two_le (p : Pipe) (s : State) (h : 2 ≤ p.num) : rxAddress p s = s.cfgRxHi1 ++ s.cfgRxLo.get p := by
  cases p with
  | p0 | p1 => exact absurd h (by decide)
  | p2 | p3 | p4 | p5 => rfl

/-- R134: SET_RX_ADDR on pipe 1 outside Standby. -/
theorem exec_setRxAddr_pipe_one (hi32 : Hi32) (lo8 : Byte) {s : State} (hs : s.mode ≠ .standby) :
    exec (.setRxAddr 1#8 hi32 lo8) s = .next (respond .ok [] (writeRxAddr .p1 hi32 lo8 s)) :=
  congrArg Host.Outcome.next (gate_open _ _ s hs)

/-- Settles O11: the addresses of R25, read again after pipe 1's registers were written. -/
theorem pipeOneMovesTheSharedUpperBytes : Obligations.PipeOneMovesTheSharedUpperBytes := by
  intro s
  refine ⟨rfl, rfl, fun p hp => rxAddress_of_two_le p s hp, rfl, fun hi32 lo8 hs => ?_⟩
  refine ⟨_, exec_setRxAddr_pipe_one hi32 lo8 hs, rfl, rfl, fun p hp => ?_⟩
  rw [rxAddress_of_two_le p _ hp]
  cases p with
  | p0 | p1 => exact absurd hp (by decide)
  | p2 | p3 | p4 | p5 => rfl

/-! ## The interrupt latch -/

/-- R28: the latch after the line has taken a level. -/
theorem setIrqLine_eq (level : Bool) (s : State) :
    setIrqLine level s =
      { s with
        irqLine := level,
        irqPend := if s.irqEn = true ∧ s.irqLine = true ∧ level = false then true else s.irqPend } := by
  unfold setIrqLine fallingEdge
  congr 1
  cases s.irqEn <;> cases s.irqLine <;> cases level <;> simp

/-- R292: a service clears the latch and leaves the mask. -/
theorem exec_irqService_latch {s t : State} (h : exec .irqService s = .next t) : t.irqPend = false ∧ t.irqEn = s.irqEn := by
  rcases exec_irqService_cases s with ⟨-, tr, hx⟩ | ⟨-, p, tr, q, n, hx⟩ | ⟨-, p, tr, hx⟩ | ⟨-, tr, cs, -, hx⟩ <;>
    cases hx.symm.trans h <;> exact ⟨rfl, rfl⟩

/-- Settles O35: the line's move, the interrupt agent at rest, and its service. -/
theorem interruptLatch : Obligations.InterruptLatch := by
  refine fun s => ⟨fun level hm => ?_, fun hm hoff => ?_, fun hm he hp => ?_⟩
  · rw [step_eq_perform, hm]
    exact congrArg Host.Outcome.next (setIrqLine_eq level (moved s))
  · rw [step_of_interrupt s hm]
    rcases interruptStep_cases (moved s) with ⟨he, hp, -⟩ | ⟨-, hi⟩
    · exact absurd hoff (by simp [show s.irqEn = true from he, show s.irqPend = true from hp])
    · exact hi
  · rw [step_of_interrupt s hm]
    rcases interruptStep_cases (moved s) with ⟨-, -, hi⟩ | ⟨hoff, -⟩
    · obtain ⟨t, ht⟩ := exec_next .irqService (moved s)
      obtain ⟨hpend, hen⟩ := exec_irqService_latch ht
      exact ⟨t, hi.trans ht, hpend, hen.trans he⟩
    · exact absurd hoff (by simp [moved, he, hp])

/-! ## The invariant after reset -/

/-- Settles O53: after reset the mode is Standby, and queues, counters, latches and sender are empty. -/
theorem invariantHoldsAtReset : Obligations.InvariantHoldsAtReset := by
  intro p u agenda hp
  exact
    { params := hp
      queues := fun q => by simp [queueCount, State.resetWith]
      counters := ⟨Nat.zero_le _, Nat.zero_le _⟩
      standby := fun _ => ⟨rfl, rfl, rfl⟩
      active := fun h => absurd rfl h
      channel := fun h => absurd rfl h
      pending := fun _ => rfl
      latches := fun q => by simp [State.resetWith]
      sender := nofun }

end Sys2Proof.Machine

/-! SUPPORT. No operation reads an unspecified register before writing it (10_state R46, 70_reset_and_hazards R321): a run from
a state and a run from the same state with other values there go side by side. -/

namespace Sys2Proof.Machine

/-- The state with other values in the registers that R45 leaves unspecified. -/
def overlay (u : Unspecified) (s : State) : State :=
  { s with
    txStart := u.txStart, cfgChannel := u.cfgChannel, cfgPipeEn := u.cfgPipeEn, cfgRxHi0 := u.cfgRxHi0,
    cfgRxHi1 := u.cfgRxHi1, cfgRxLo := u.cfgRxLo, cfgTxHi := u.cfgTxHi, cfgTxLo := u.cfgTxLo, rtHdr := u.rtHdr }

/-- R46: the values of `u` differ from those of `s` only where no operation will read before it writes. -/
structure Unread (u : Unspecified) (s : State) : Prop where
  /-- INIT writes `cfg_pipe_en`, and the commands that read it are refused before. -/
  pipeEn : s.mode ≠ .standby → u.cfgPipeEn = s.cfgPipeEn
  /-- `tx_start` is written when a frame is started and read only while it is in flight. -/
  txStart : s.mode = .transmitting → u.txStart = s.txStart
  /-- A header latch is read only while it is valid. -/
  rtHdr : ∀ p, s.rtHdrValid.get p = true → u.rtHdr.get p = s.rtHdr.get p
  /-- R301: nothing but INIT takes the machine out of Standby. -/
  standby : s.mode = .standby → s.irqEn = false ∧ s.sender = none

/-- Two states that no operation can tell apart: they differ in unread unspecified registers. -/
def Agree (s t : State) : Prop := ∃ u, t = overlay u s ∧ Unread u s

/-- A state change that keeps what `Unread` speaks of. -/
theorem Unread.of_same {u : Unspecified} {s t : State} (h : Unread u s) (mode : t.mode = s.mode)
    (pipeEn : t.cfgPipeEn = s.cfgPipeEn) (txStart : t.txStart = s.txStart) (valid : t.rtHdrValid = s.rtHdrValid)
    (hdr : t.rtHdr = s.rtHdr) (irqEn : t.irqEn = s.irqEn) (sender : t.sender = s.sender) : Unread u t where
  pipeEn := by simpa only [mode, pipeEn] using h.pipeEn
  txStart := by simpa only [mode, txStart] using h.txStart
  rtHdr := by simpa only [valid, hdr] using h.rtHdr
  standby := by simpa only [mode, irqEn, sender] using h.standby

/-- Outside Standby a state change that enters Receiving makes `tx_start` unread. -/
theorem Unread.of_receiving {u : Unspecified} {s t : State} (h : Unread u s) (active : s.mode ≠ .standby)
    (mode : t.mode = .receiving) (pipeEn : t.cfgPipeEn = s.cfgPipeEn) (valid : t.rtHdrValid = s.rtHdrValid)
    (hdr : t.rtHdr = s.rtHdr) : Unread u t where
  pipeEn _ := (h.pipeEn active).trans pipeEn.symm
  txStart ht := nomatch mode.symm.trans ht
  rtHdr := by simpa only [valid, hdr] using h.rtHdr
  standby hs := nomatch mode.symm.trans hs

/-! ## Operations that commute with an overlay -/

section
variable (u : Unspecified) (s : State)

theorem watchdogFires_overlay : watchdogFires (overlay u s) = overlay u (watchdogFires s) := rfl

theorem clockSampled_overlay : clockSampled (overlay u s) = overlay u (clockSampled s) := rfl

theorem txDone_overlay : txDone (overlay u s) = overlay u (txDone s) := rfl

/-- R182: a frame's start writes `tx_start`. -/
theorem transmitFrame_overlay (data : List Byte) :
    transmitFrame data (overlay u s) = overlay { u with txStart := s.now } (transmitFrame data s) := rfl

theorem finishSend_overlay (snd : Sender) (st : Status) :
    finishSend snd st (overlay u s) = overlay u (finishSend snd st s) := by
  unfold finishSend
  cases snd.reply <;> rfl

theorem senderExpiry_overlay (snd : Sender) : senderExpiry snd (overlay u s) = overlay u (senderExpiry snd s) := by
  unfold senderExpiry
  rw [clockSampled_overlay, watchdogFires_overlay, finishSend_overlay, apply_ite (overlay u)]
  rfl

theorem queuePushAll_overlay (p : Pipe) (bs : List Byte) :
    queuePushAll p bs (overlay u s) = overlay u (queuePushAll p bs s) := by
  rw [queuePushAll_eq, queuePushAll_eq]
  rfl

theorem deliver_overlay (p : Pipe) (f : List Byte) : deliver p f (overlay u s) = overlay u (deliver p f s) := by
  cases hv : (decodeFrameOf f).valid <;> simp only [deliver, hv]
  · rfl
  · exact queuePushAll_overlay u s p _

theorem receive_overlay (p : Pipe) : receive p (overlay u s) = overlay u (receive p s) :=
  deliver_overlay u (radioClearRxDr (radioFlushRx (radioReadRxPayload s))) p (radioRxPayloadValue s)

theorem demultiplex_overlay (r : StatusRec) : demultiplex r (overlay u s) = overlay u (demultiplex r s) := by
  unfold demultiplex
  split
  · exact txDone_overlay u s
  · split
    · split
      · exact receive_overlay u s _
      · rfl
    · rfl

theorem exec_irqService_overlay {t : State} (h : exec .irqService s = .next t) :
    exec .irqService (overlay u s) = .next (overlay u t) := by
  cases h
  exact congrArg Host.Outcome.next (demultiplex_overlay u (radioStatusRead (irqEntry s)) s.radioStatus)

/-- R182, R188: the sender's loop writes `tx_start` when it starts a frame, and leaves it alone while one is in flight. -/
theorem senderLoop_overlay (snd : Sender) :
    senderLoop snd (overlay u s) =
      overlay { u with txStart := if s.mode = .transmitting then u.txStart else s.now } (senderLoop snd s) := by
  by_cases hm : s.mode = .transmitting
  · have ht : ∀ v, transmitting (overlay v s) = true := fun v => decide_eq_true hm
    rw [if_pos hm]
    simp only [senderLoop, ht, show transmitting s = true from ht u, if_true]
    exact senderExpiry_overlay u s snd
  · have ht : ∀ v, transmitting (overlay v s) = false := fun v => decide_eq_false hm
    rw [if_neg hm]
    simp only [senderLoop, ht, show transmitting s = false from ht u, transmitFrame_overlay, clockSampled_overlay]
    simp only [Bool.false_eq_true, if_false, apply_ite (overlay _), ← finishSend_overlay, ← senderExpiry_overlay]
    rfl

end

/-- R181, R182: after an iteration of the sender's loop the mode is not Standby, and `tx_start` is what the loop left or wrote. -/
theorem senderLoop_mode_txStart (snd : Sender) (s : State) :
    (senderLoop snd s).mode ≠ .standby ∧
      ((senderLoop snd s).mode = .transmitting →
        (senderLoop snd s).txStart = if s.mode = .transmitting then s.txStart else s.now) := by
  rcases senderLoop_endings snd s with ⟨hm, h⟩ | h | ⟨hm, h⟩ <;> rw [h]
  · exact ⟨fun hs => (nomatch hm.symm.trans hs), fun _ => (if_pos hm).symm⟩
  · exact ⟨nofun, nofun⟩
  · exact ⟨nofun, fun _ => (if_neg hm).symm⟩

/-! ## Operations on two states that agree -/

section
variable {s t : State}

/-! ### The fields that agree -/

theorem Agree.mode_eq (h : Agree s t) : t.mode = s.mode := by obtain ⟨u, rfl, -⟩ := h; rfl
theorem Agree.params_eq (h : Agree s t) : t.params = s.params := by obtain ⟨u, rfl, -⟩ := h; rfl
theorem Agree.now_eq (h : Agree s t) : t.now = s.now := by obtain ⟨u, rfl, -⟩ := h; rfl
theorem Agree.q_eq (h : Agree s t) : t.q = s.q := by obtain ⟨u, rfl, -⟩ := h; rfl
theorem Agree.rtErr_eq (h : Agree s t) : t.rtErr = s.rtErr := by obtain ⟨u, rfl, -⟩ := h; rfl
theorem Agree.rtHdrValid_eq (h : Agree s t) : t.rtHdrValid = s.rtHdrValid := by obtain ⟨u, rfl, -⟩ := h; rfl
theorem Agree.radioStatus_eq (h : Agree s t) : t.radioStatus = s.radioStatus := by obtain ⟨u, rfl, -⟩ := h; rfl
theorem Agree.cntCksumErr_eq (h : Agree s t) : t.cntCksumErr = s.cntCksumErr := by obtain ⟨u, rfl, -⟩ := h; rfl
theorem Agree.cntReset_eq (h : Agree s t) : t.cntReset = s.cntReset := by obtain ⟨u, rfl, -⟩ := h; rfl
theorem Agree.sender_eq (h : Agree s t) : t.sender = s.sender := by obtain ⟨u, rfl, -⟩ := h; rfl
theorem Agree.hostIn_eq (h : Agree s t) : t.hostIn = s.hostIn := by obtain ⟨u, rfl, -⟩ := h; rfl
theorem Agree.irqEn_eq (h : Agree s t) : t.irqEn = s.irqEn := by obtain ⟨u, rfl, -⟩ := h; rfl
theorem Agree.irqPend_eq (h : Agree s t) : t.irqPend = s.irqPend := by obtain ⟨u, rfl, -⟩ := h; rfl
theorem Agree.agenda_eq (h : Agree s t) : t.agenda = s.agenda := by obtain ⟨u, rfl, -⟩ := h; rfl

/-- R138, R139: outside Standby the pipe masks agree. -/
theorem Agree.cfgPipeEn_eq (h : Agree s t) (active : s.mode ≠ .standby) : t.cfgPipeEn = s.cfgPipeEn := by
  obtain ⟨u, rfl, hu⟩ := h
  exact hu.pipeEn active

/-- R188: in Transmitting the start of the frame agrees. -/
theorem Agree.txStart_eq (h : Agree s t) (hm : s.mode = .transmitting) : t.txStart = s.txStart := by
  obtain ⟨u, rfl, hu⟩ := h
  exact hu.txStart hm

/-- R242: a valid header latch agrees. -/
theorem Agree.rtHdr_eq (h : Agree s t) (p : Pipe) (hv : s.rtHdrValid.get p = true) : t.rtHdr.get p = s.rtHdr.get p := by
  obtain ⟨u, rfl, hu⟩ := h
  exact hu.rtHdr p hv

/-! ### Primitives -/

/-- A response, and what is recorded with it, agree when the states do. -/
theorem Agree.respond (h : Agree s t) (st : Status) (r : List Byte) : Agree (respond st r s) (respond st r t) := by
  obtain ⟨u, rfl, hu⟩ := h
  exact ⟨u, rfl, hu.of_same rfl rfl rfl rfl rfl rfl rfl⟩

theorem Agree.raiseCond (h : Agree s t) (c : Condition) : Agree (raiseCond c s) (raiseCond c t) := by
  obtain ⟨u, rfl, hu⟩ := h
  exact ⟨u, rfl, hu.of_same rfl rfl rfl rfl rfl rfl rfl⟩

theorem Agree.emitDispatch (h : Agree s t) (e : DispatchEvent) : Agree (emitDispatch e s) (emitDispatch e t) := by
  obtain ⟨u, rfl, hu⟩ := h
  exact ⟨u, rfl, hu.of_same rfl rfl rfl rfl rfl rfl rfl⟩

theorem Agree.clockSampled (h : Agree s t) : Agree (clockSampled s) (clockSampled t) := by
  obtain ⟨u, rfl, hu⟩ := h
  exact ⟨u, rfl, hu.of_same rfl rfl rfl rfl rfl rfl rfl⟩

theorem Agree.transact (h : Agree s t) (op : RadioOp) : Agree (transact op s) (transact op t) := by
  obtain ⟨u, rfl, hu⟩ := h
  exact ⟨u, rfl, hu.of_same rfl rfl rfl rfl rfl rfl rfl⟩

theorem Agree.writeTxAddr (h : Agree s t) (hi32 : Hi32) (lo8 : Byte) :
    Agree (writeTxAddr hi32 lo8 s) (writeTxAddr hi32 lo8 t) := by
  obtain ⟨u, rfl, hu⟩ := h
  exact ⟨{ u with cfgTxHi := hi32, cfgTxLo := lo8 }, rfl, hu.pipeEn, hu.txStart, hu.rtHdr, hu.standby⟩

theorem Agree.rejectArg (h : Agree s t) (o : Op) (v : Byte) : Agree (rejectArg o v s) (rejectArg o v t) :=
  (h.raiseCond _).respond _ _

/-- R105: behind the gate agreement is needed only outside Standby. -/
theorem Agree.gate (h : Agree s t) (o : Op) {body : State → State} (hb : s.mode ≠ .standby → Agree (body s) (body t)) :
    Agree (gate o body s) (gate o body t) := by
  by_cases hm : s.mode = .standby
  · rw [gate_closed o body s hm, gate_closed o body t (h.mode_eq.trans hm)]
    exact (h.raiseCond _).respond _ _
  · rw [gate_open o body s hm, gate_open o body t (h.mode_eq ▸ hm)]
    exact hb hm

/-- R181 to R184: the sender's loop, outside Standby. -/
theorem Agree.senderLoop (h : Agree s t) (snd : Sender) (active : s.mode ≠ .standby) :
    Agree (senderLoop snd s) (senderLoop snd t) := by
  obtain ⟨u, rfl, hu⟩ := h
  obtain ⟨hmode, htx⟩ := senderLoop_mode_txStart snd s
  refine ⟨_, senderLoop_overlay u s snd, ?_⟩
  constructor
  · intro _
    rw [senderLoop_frame]
    exact hu.pipeEn active
  · intro hm
    rw [htx hm]
    exact ite_congr rfl hu.txStart fun _ => rfl
  · rw [senderLoop_frame]
    exact hu.rtHdr
  · exact fun hs => absurd hs hmode

theorem Agree.sendBytes (h : Agree s t) (reply : SendReply) (data : List Byte) (active : s.mode ≠ .standby) :
    Agree (sendBytes reply data s) (sendBytes reply data t) := by
  rw [sendBytes_eq, sendBytes_eq, h.now_eq]
  exact h.clockSampled.senderLoop _ active

/-! ## The router -/

theorem Agree.localDispatch (h : Agree s t) (hd : Header) (data : List Byte) :
    Agree (localDispatch hd data s) (localDispatch hd data t) := by
  unfold Machine.localDispatch
  rw [h.params_eq]
  split
  · exact (h.raiseCond _).respond _ _
  · split
    · exact (h.raiseCond _).respond _ _
    · exact (h.emitDispatch _).respond _ _

theorem Agree.routePacket (h : Agree s t) (hd : Header) (data : List Byte) (active : s.mode ≠ .standby) :
    Agree (routePacket hd data s) (routePacket hd data t) := by
  unfold Machine.routePacket
  rw [h.params_eq]
  split
  · exact h.localDispatch hd data
  · split
    · exact (h.writeTxAddr _ _).sendBytes _ _ active
    · exact (h.raiseCond _).respond _ _
  · exact (h.writeTxAddr _ _).sendBytes _ _ active

/-- R243: the packet consumed and its latch no longer valid. -/
theorem Agree.take (h : Agree s t) (p : Pipe) (q : PerPipe (List Byte)) :
    Agree { s with q := q, rtHdrValid := s.rtHdrValid.set p false }
      { t with q := q, rtHdrValid := t.rtHdrValid.set p false } := by
  obtain ⟨u, rfl, hu⟩ := h
  refine ⟨u, rfl, hu.pipeEn, hu.txStart, fun p' hp' => ?_, hu.standby⟩
  rw [PerPipe.get_set] at hp'
  split at hp'
  · cases hp'
  · exact hu.rtHdr p' hp'

/-- R242: a header latched with its bytes consumed. -/
theorem Agree.latch (h : Agree s t) (p : Pipe) (q : PerPipe (List Byte)) (hd : Header) :
    Agree { s with q := q, rtHdr := s.rtHdr.set p hd, rtHdrValid := s.rtHdrValid.set p true }
      { t with q := q, rtHdr := t.rtHdr.set p hd, rtHdrValid := t.rtHdrValid.set p true } := by
  obtain ⟨u, rfl, hu⟩ := h
  refine ⟨{ u with rtHdr := u.rtHdr.set p hd }, rfl, hu.pipeEn, hu.txStart, fun p' hp' => ?_, hu.standby⟩
  simp only [PerPipe.get_set] at hp' ⊢
  split
  · rfl
  · next hne => exact hu.rtHdr p' (by simpa [hne] using hp')

/-- R246: a pipe's router stopped. -/
theorem Agree.stop (h : Agree s t) (p : Pipe) :
    Agree { s with rtErr := s.rtErr.set p true } { t with rtErr := t.rtErr.set p true } := by
  obtain ⟨u, rfl, hu⟩ := h
  exact ⟨u, rfl, hu.of_same rfl rfl rfl rfl rfl rfl rfl⟩

/-- R243: the data phase reads the header latch of its pipe, which is valid. -/
theorem Agree.dataPhase (h : Agree s t) (p : Pipe) (active : s.mode ≠ .standby) (hv : s.rtHdrValid.get p = true) :
    Agree (dataPhase p s) (dataPhase p t) := by
  simp only [Machine.dataPhase, queueCount, queuePopN_eq, h.rtHdr_eq p hv, h.q_eq]
  split
  · exact h.respond _ _
  · exact (h.take p _).routePacket _ _ active

/-- R242: the header phase latches a header before the data phase reads it. -/
theorem Agree.headerPhase (h : Agree s t) (p : Pipe) (active : s.mode ≠ .standby) :
    Agree (headerPhase p s) (headerPhase p t) := by
  simp only [Machine.headerPhase, queueCount, queuePopN_eq, h.q_eq]
  split
  · exact h.respond _ _
  · split
    · exact (((h.latch p _ _).stop p).raiseCond _).respond _ _
    · exact (h.latch p _ _).dataPhase p active (PerPipe.get_set_same _ _ _)

theorem Agree.routePipe (h : Agree s t) (p : Pipe) (active : s.mode ≠ .standby) : Agree (routePipe p s) (routePipe p t) := by
  unfold Machine.routePipe
  rw [h.rtErr_eq, h.rtHdrValid_eq]
  split
  · exact (h.raiseCond _).respond _ _
  · split
    · next hv => exact h.dataPhase p active hv
    · exact h.headerPhase p active

/-! ## The other operations -/

/-- R130: INIT writes the channel and the pipe mask before anything reads them. -/
theorem Agree.initSequence (h : Agree s t) : Agree (initSequence s) (initSequence t) := by
  obtain ⟨u, rfl, hu⟩ := h
  rw [initSequence_eq, initSequence_eq]
  exact ⟨{ u with cfgChannel := s.params.defaultChannel, cfgPipeEn := s.params.initPipeMask }, rfl,
    fun _ => rfl, nofun, hu.rtHdr, nofun⟩

theorem Agree.writeChannel (h : Agree s t) (ch : BitVec 7) : Agree (writeChannel ch s) (writeChannel ch t) := by
  obtain ⟨u, rfl, hu⟩ := h
  exact ⟨{ u with cfgChannel := ch }, rfl, hu.pipeEn, hu.txStart, hu.rtHdr, hu.standby⟩

theorem Agree.writePipeMask (h : Agree s t) (m : BitVec 6) : Agree (writePipeMask m s) (writePipeMask m t) := by
  obtain ⟨u, rfl, hu⟩ := h
  exact ⟨{ u with cfgPipeEn := m }, rfl, fun _ => rfl, hu.txStart, hu.rtHdr, hu.standby⟩

/-- R134: the shadows of a receive address, which nothing reads. -/
theorem Agree.writeRxAddr (h : Agree s t) (p : Pipe) (hi32 : Hi32) (lo8 : Byte) :
    Agree (writeRxAddr p hi32 lo8 s) (writeRxAddr p hi32 lo8 t) := by
  obtain ⟨u, rfl, hu⟩ := h
  cases p with
  | p0 =>
    exact ⟨{ u with cfgRxHi0 := hi32, cfgRxLo := u.cfgRxLo.set .p0 lo8 }, rfl, hu.pipeEn, hu.txStart, hu.rtHdr, hu.standby⟩
  | p1 =>
    exact ⟨{ u with cfgRxHi1 := hi32, cfgRxLo := u.cfgRxLo.set .p1 lo8 }, rfl, hu.pipeEn, hu.txStart, hu.rtHdr, hu.standby⟩
  | p2 => exact ⟨{ u with cfgRxLo := u.cfgRxLo.set .p2 lo8 }, rfl, hu.pipeEn, hu.txStart, hu.rtHdr, hu.standby⟩
  | p3 => exact ⟨{ u with cfgRxLo := u.cfgRxLo.set .p3 lo8 }, rfl, hu.pipeEn, hu.txStart, hu.rtHdr, hu.standby⟩
  | p4 => exact ⟨{ u with cfgRxLo := u.cfgRxLo.set .p4 lo8 }, rfl, hu.pipeEn, hu.txStart, hu.rtHdr, hu.standby⟩
  | p5 => exact ⟨{ u with cfgRxLo := u.cfgRxLo.set .p5 lo8 }, rfl, hu.pipeEn, hu.txStart, hu.rtHdr, hu.standby⟩

theorem Agree.setRxAddrBody (h : Agree s t) (pipe : Byte) (hi32 : Hi32) (lo8 : Byte) :
    Agree (setRxAddrBody pipe hi32 lo8 s) (setRxAddrBody pipe hi32 lo8 t) := by
  unfold Machine.setRxAddrBody
  split
  · exact h.rejectArg _ _
  · exact (h.writeRxAddr _ _ _).respond _ _

theorem Agree.setChannelBody (h : Agree s t) (ch : Byte) : Agree (setChannelBody ch s) (setChannelBody ch t) := by
  unfold Machine.setChannelBody
  split
  · exact (h.writeChannel _).respond _ _
  · exact h.rejectArg _ _

/-- R138: the pipe mask is read outside Standby alone. -/
theorem Agree.enablePipesBody (h : Agree s t) (mask : Byte) (active : s.mode ≠ .standby) :
    Agree (enablePipesBody mask s) (enablePipesBody mask t) := by
  unfold Machine.enablePipesBody
  rw [h.cfgPipeEn_eq active]
  split
  · exact (h.writePipeMask _).respond _ _
  · exact h.rejectArg _ _

theorem Agree.disablePipesBody (h : Agree s t) (mask : Byte) (active : s.mode ≠ .standby) :
    Agree (disablePipesBody mask s) (disablePipesBody mask t) := by
  unfold Machine.disablePipesBody
  rw [h.cfgPipeEn_eq active]
  split
  · exact (h.writePipeMask _).respond _ _
  · exact h.rejectArg _ _

/-- R185: the recovery path, outside Standby. -/
theorem Agree.resetToReceive (h : Agree s t) (active : s.mode ≠ .standby) :
    Agree (resetToReceive s) (resetToReceive t) := by
  obtain ⟨u, rfl, hu⟩ := h
  refine ⟨u, rfl, ?_⟩
  rw [resetToReceive_eq]
  exact hu.of_receiving active rfl rfl rfl rfl

theorem Agree.watchdogFires (h : Agree s t) (active : s.mode ≠ .standby) : Agree (watchdogFires s) (watchdogFires t) :=
  (h.raiseCond .txTimeout).resetToReceive active

/-- R216: `tx_start` is read in Transmitting alone. -/
theorem Agree.dataReadyBody (h : Agree s t) (active : s.mode ≠ .standby) : Agree (dataReadyBody s) (dataReadyBody t) := by
  by_cases hm : s.mode = .transmitting
  · have hs : Machine.transmitting s = true := decide_eq_true hm
    have ht : Machine.transmitting t = true := decide_eq_true (h.mode_eq.trans hm)
    cases hx : expired s.params s.now s.txStart <;>
      simp only [Machine.dataReadyBody, hs, ht, if_true, clockSample, h.params_eq, h.now_eq, h.txStart_eq hm, hx]
    · exact h.clockSampled.respond _ _
    · exact (h.clockSampled.watchdogFires active).respond _ _
  · have hs : Machine.transmitting s = false := decide_eq_false hm
    have ht : Machine.transmitting t = false := decide_eq_false (h.mode_eq ▸ hm)
    simp only [Machine.dataReadyBody, hs, ht, radioStatusValue, h.radioStatus_eq]
    exact (h.transact .readStatus).respond _ _

/-- R221: what is left of the queues after a pop. -/
theorem Agree.withQueues (h : Agree s t) (q : PerPipe (List Byte)) : Agree { s with q := q } { t with q := q } := by
  obtain ⟨u, rfl, hu⟩ := h
  exact ⟨u, rfl, hu.of_same rfl rfl rfl rfl rfl rfl rfl⟩

/-- R210: a service outside Standby. -/
theorem Agree.service {s' : State} (h : Agree s t) (active : s.mode ≠ .standby) (hx : Machine.exec .irqService s = .next s') :
    ∃ t', Machine.exec .irqService t = .next t' ∧ Agree s' t' := by
  obtain ⟨u, rfl, hu⟩ := h
  refine ⟨_, exec_irqService_overlay u s hx, u, rfl, ?_⟩
  rcases exec_irqService_cases s with ⟨-, tr, hy⟩ | ⟨-, p, tr, q, n, hy⟩ | ⟨-, p, tr, hy⟩ | ⟨-, tr, cs, -, hy⟩ <;>
    cases hy.symm.trans hx
  · exact hu.of_receiving active rfl rfl rfl rfl
  all_goals exact hu.of_same rfl rfl rfl rfl rfl rfl rfl

/-- R46: every operation keeps two states in agreement; a service needs a mode other than Standby, where interrupts are masked. -/
theorem Agree.exec {i : Instr} {s' : State} (h : Agree s t) (active : i = .irqService → s.mode ≠ .standby)
    (hx : exec i s = .next s') : ∃ t', exec i t = .next t' ∧ Agree s' t' := by
  cases i with
  | init => cases hx; exact ⟨_, rfl, h.initSequence.respond _ _⟩
  | setChannel ch => cases hx; exact ⟨_, rfl, h.gate _ fun _ => h.setChannelBody ch⟩
  | setRxAddr pipe hi32 lo8 => cases hx; exact ⟨_, rfl, h.gate _ fun _ => h.setRxAddrBody pipe hi32 lo8⟩
  | setTxAddr hi32 lo8 => cases hx; exact ⟨_, rfl, h.gate _ fun _ => (h.writeTxAddr hi32 lo8).respond _ _⟩
  | enablePipes mask => cases hx; exact ⟨_, rfl, h.gate _ (h.enablePipesBody mask)⟩
  | disablePipes mask => cases hx; exact ⟨_, rfl, h.gate _ (h.disablePipesBody mask)⟩
  | writePayload data => cases hx; exact ⟨_, rfl, h.gate _ (h.sendBytes .write data)⟩
  | resetToRx => cases hx; exact ⟨_, rfl, h.gate _ fun hs => (h.resetToReceive hs).respond _ _⟩
  | dataReady => cases hx; exact ⟨_, rfl, h.gate _ h.dataReadyBody⟩
  | routeStep pipe =>
    cases hx
    refine ⟨_, rfl, h.gate _ fun hs => ?_⟩
    unfold routeStepBody
    split
    · exact h.rejectArg _ _
    · exact h.routePipe _ hs
  | pipeCount pipe =>
    cases hx
    refine ⟨_, rfl, ?_⟩
    split
    · exact h.rejectArg _ _
    · rw [queueCount, queueCount, h.q_eq]
      exact h.respond _ _
  | pipeRead pipe =>
    cases hx
    refine ⟨_, rfl, ?_⟩
    split
    · exact h.rejectArg _ _
    · next p _ =>
      cases hq : s.q.get p with
      | nil =>
        simp only [queuePop, h.q_eq, hq]
        exact (h.raiseCond _).respond _ _
      | cons b bs =>
        simp only [queuePop, h.q_eq, hq]
        exact (h.withQueues _).respond _ _
  | getCksumErr => cases hx; exact ⟨_, rfl, h.cntCksumErr_eq ▸ h.respond _ _⟩
  | getResetCnt => cases hx; exact ⟨_, rfl, h.cntReset_eq ▸ h.respond _ _⟩
  | getMode => cases hx; exact ⟨_, rfl, h.mode_eq ▸ h.respond _ _⟩
  | checksum data => cases hx; exact ⟨_, rfl, h.respond _ _⟩
  | encodeFrame data =>
    cases hx
    refine ⟨_, rfl, ?_⟩
    split
    · exact h.rejectArg _ _
    · exact h.respond _ _
  | decodeFrame frame => cases hx; exact ⟨_, rfl, h.respond _ _⟩
  | irqService => exact h.service (active rfl) hx

/-! ## Steps and runs -/

theorem Agree.withHostIn (h : Agree s t) (ms : List Message) : Agree { s with hostIn := ms } { t with hostIn := ms } := by
  obtain ⟨u, rfl, hu⟩ := h
  exact ⟨u, rfl, hu.of_same rfl rfl rfl rfl rfl rfl rfl⟩

theorem Agree.moved (h : Agree s t) : Agree (moved s) (moved t) := by
  obtain ⟨u, rfl, hu⟩ := h
  exact ⟨u, rfl, hu.of_same rfl rfl rfl rfl rfl rfl rfl⟩

/-- R301: a live sender, or an enabled interrupt, shows a mode other than Standby. -/
theorem Agree.active_of_sender (h : Agree s t) (hs : s.sender ≠ none) : s.mode ≠ .standby := by
  obtain ⟨u, -, hu⟩ := h
  exact fun hm => hs (hu.standby hm).2

theorem Agree.active_of_irqEn (h : Agree s t) (he : s.irqEn = true) : s.mode ≠ .standby := by
  obtain ⟨u, -, hu⟩ := h
  exact fun hm => nomatch he.symm.trans (hu.standby hm).1

theorem Agree.answerMalformed (h : Agree s t) (e : DecodeError) : Agree (answerMalformed e s) (answerMalformed e t) := by
  cases e <;> exact (h.raiseCond _).respond _ _

theorem Agree.runMessage {s' : State} (h : Agree s t) (m : Message) (hx : runMessage m s = .next s') :
    ∃ t', runMessage m t = .next t' ∧ Agree s' t' := by
  unfold Machine.runMessage at hx ⊢
  cases hd : decodeMessage m with
  | ok i =>
    rw [hd] at hx
    exact h.exec (absurd · (decodeMessage_ne_irqService hd)) hx
  | error e =>
    rw [hd] at hx
    cases hx
    exact ⟨_, rfl, h.answerMalformed e⟩

theorem Agree.foregroundStep {s' : State} (h : Agree s t) (hx : foregroundStep s = .next s') :
    ∃ t', foregroundStep t = .next t' ∧ Agree s' t' := by
  cases hs : s.sender with
  | some snd =>
    cases (foregroundStep_of_sender hs).symm.trans hx
    exact ⟨_, foregroundStep_of_sender (h.sender_eq.trans hs), h.senderLoop snd (h.active_of_sender (by simp [hs]))⟩
  | none =>
    cases hi : s.hostIn with
    | nil =>
      cases (foregroundStep_of_idle hs hi).symm.trans hx
      exact ⟨t, foregroundStep_of_idle (h.sender_eq.trans hs) (h.hostIn_eq.trans hi), h⟩
    | cons m ms =>
      rw [foregroundStep_of_message hs hi] at hx
      rw [foregroundStep_of_message (h.sender_eq.trans hs) (h.hostIn_eq.trans hi)]
      exact (h.withHostIn ms).runMessage m hx

theorem Agree.interruptStep {s' : State} (h : Agree s t) (hx : interruptStep s = .next s') :
    ∃ t', interruptStep t = .next t' ∧ Agree s' t' := by
  have hen : irqEnabled t = irqEnabled s := by simp only [irqEnabled, h.irqEn_eq, h.irqPend_eq]
  unfold Machine.interruptStep at hx ⊢
  rw [hen]
  split at hx
  · next he =>
    rw [if_pos he]
    exact h.exec (fun _ => h.active_of_irqEn (Bool.and_eq_true_iff.1 he).1) hx
  · next he =>
    rw [if_neg he]
    cases hx
    exact ⟨_, rfl, h⟩

/-- R76, R46: every move; a hardware reset gives both the same values again. -/
theorem Agree.perform {s' : State} (h : Agree s t) (m : Move) (hx : perform m s = .next s') :
    ∃ t', perform m t = .next t' ∧ Agree s' t' := by
  cases m with
  | foreground => exact h.foregroundStep hx
  | interrupt => exact h.interruptStep hx
  | reset v =>
    cases hx
    obtain ⟨u, rfl, -⟩ := h
    exact ⟨_, rfl, v, rfl, fun _ => rfl, fun _ => rfl, fun _ _ => rfl, fun _ => ⟨rfl, rfl⟩⟩
  | submit _ | clock _ _ | status _ | rxFrame _ | irqLine _ =>
    cases hx
    obtain ⟨u, rfl, hu⟩ := h
    exact ⟨_, rfl, u, rfl, hu.of_same rfl rfl rfl rfl rfl rfl rfl⟩

theorem Agree.step {s' : State} (h : Agree s t) (hx : step s = .next s') : ∃ t', step t = .next t' ∧ Agree s' t' := by
  have hm : nextMove t = nextMove s := by simp only [nextMove, h.agenda_eq]
  rw [step_eq_perform] at hx ⊢
  rw [hm]
  exact h.moved.perform _ hx

/-- R46: runs of equal length from states in agreement end in agreement. -/
theorem Agree.runs {s' : State} {n : Nat} (h : Agree s t) (hx : Runs n s s') : ∃ t', Runs n t t' ∧ Agree s' t' := by
  induction n generalizing s t with
  | zero =>
    cases hx
    exact ⟨t, rfl, h⟩
  | succ n ih =>
    obtain ⟨v, hv, hrest⟩ := hx
    obtain ⟨w, hw, hvw⟩ := h.step hv
    obtain ⟨t', ht', hst⟩ := ih hvw hrest
    exact ⟨t', ⟨w, hw, ht'⟩, hst⟩

end

/-- R45: two states after reset that differ in the unspecified values. -/
theorem resetWith_agree (p : Params) (u v : Unspecified) (agenda : List Move) :
    Agree { State.resetWith p u with agenda := agenda } { State.resetWith p v with agenda := agenda } :=
  ⟨v, rfl, fun h => absurd rfl h, nofun, fun q hq => by simp [State.resetWith] at hq, fun _ => ⟨rfl, rfl⟩⟩

/-- R45: the values after reset. -/
theorem resetWith_values (p : Params) (u : Unspecified) (s : State) (hs : s = State.resetWith p u) :
    s.mode = .standby ∧ s.ce = false ∧ s.irqEn = false ∧ s.irqPend = false ∧ (∀ p, s.q.get p = []) ∧
    s.cntCksumErr = 0 ∧ s.cntReset = 0 ∧ (∀ p, s.rtHdrValid.get p = false) ∧ (∀ p, s.rtErr.get p = false) ∧
    s.sender = none ∧ s.hostIn = [] ∧ s.hostOut = [] := by
  subst hs
  exact ⟨rfl, rfl, rfl, rfl, PerPipe.get_all _, rfl, rfl, PerPipe.get_all _, PerPipe.get_all _, rfl, rfl, rfl⟩

/-- Settles O51: the reset values, and two runs from states in agreement, whose outputs are the same fields. -/
theorem resetState : Obligations.ResetState := by
  refine ⟨fun s hs => ?_, fun p u1 u2 agenda n t1 hrun => ?_⟩
  · rcases hs with ⟨p, u, hs⟩ | hs
    · exact resetWith_values p u s hs
    · exact resetWith_values Params.test Unspecified.zero s hs
  · obtain ⟨t2, hrun2, u, rfl, -⟩ := (resetWith_agree p u1 u2 agenda).runs hrun
    exact ⟨_, hrun2, rfl, rfl, rfl, rfl, rfl, rfl, rfl, rfl⟩

end Sys2Proof.Machine

/-! SUPPORT. What leaves and what enters the pipe queues (20_memory R60 to R62, R32): commands take bytes from the front, the
interrupt service alone appends. -/

namespace Sys2Proof.Machine

/-! ## Bytes taken -/

/-- R62: from `s` to `t` the queues lost bytes at their fronts at most. -/
def QueuesConsumed (s t : State) : Prop := ∀ p, ∃ k, t.q.get p = (s.q.get p).drop k

theorem QueuesConsumed.of_eq {s t : State} (h : t.q = s.q) : QueuesConsumed s t := fun p => ⟨0, by rw [h, List.drop_zero]⟩

theorem QueuesConsumed.trans {s t u : State} (h : QueuesConsumed s t) (h' : QueuesConsumed t u) : QueuesConsumed s u := by
  intro p
  obtain ⟨k, hk⟩ := h p
  obtain ⟨n, hn⟩ := h' p
  exact ⟨k + n, by rw [hn, hk, List.drop_drop]⟩

/-- R62: bytes popped from one queue. -/
theorem QueuesConsumed.of_set_drop {s t : State} (p : Pipe) (k : Nat) (h : t.q = s.q.set p ((s.q.get p).drop k)) :
    QueuesConsumed s t := by
  intro p'
  by_cases hp : p' = p
  · subst hp
    exact ⟨k, by rw [h, PerPipe.get_set_same]⟩
  · exact ⟨0, by rw [h, PerPipe.get_set_ne _ _ _ _ hp, List.drop_zero]⟩

/-- R60: a queue that loses bytes stays within its capacity. -/
theorem QueuesConsumed.bounded {s t : State} (h : QueuesConsumed s t) (hp : t.params = s.params) (hq : QueuesBounded s) :
    QueuesBounded t := by
  intro p
  obtain ⟨k, hk⟩ := h p
  calc (t.q.get p).length = (s.q.get p).length - k := by rw [hk, List.length_drop]
    _ ≤ (s.q.get p).length := Nat.sub_le _ _
    _ ≤ s.params.queueCap := hq p
    _ = t.params.queueCap := by rw [hp]

/-- R62: a pop takes the first byte. -/
theorem queuePop_consumed {p : Pipe} {s t : State} {b : Byte} (h : queuePop p s = some (b, t)) : QueuesConsumed s t := by
  unfold queuePop at h
  split at h
  · cases h
  · next hq =>
    cases h
    exact .of_set_drop p 1 (by rw [hq, List.drop_one, List.tail_cons])

/-- R33: the sender touches no queue. -/
theorem senderLoop_q (snd : Sender) (s : State) : (senderLoop snd s).q = s.q := by rw [senderLoop_frame]

theorem sendBytes_q (reply : SendReply) (data : List Byte) (s : State) : (sendBytes reply data s).q = s.q :=
  senderLoop_q _ (clockSampled s)

/-- R105: a closed gate touches no queue. -/
theorem gate_consumed (o : Op) {body : State → State} {s : State} (h : QueuesConsumed s (body s)) :
    QueuesConsumed s (gate o body s) := by
  by_cases hm : s.mode = .standby
  · exact .of_eq (by rw [gate_closed o body s hm]; rfl)
  · rwa [gate_open o body s hm]

theorem dataReadyBody_q (s : State) : (dataReadyBody s).q = s.q := by
  unfold dataReadyBody
  split
  · split
    · rw [watchdogFires_eq]
      rfl
    · rfl
  · rfl

/-- R240: routing a packet already taken touches no queue. -/
theorem routePacket_q (h : Header) (data : List Byte) (s : State) : (routePacket h data s).q = s.q := by
  rcases routePacket_cases h data s with ⟨cs, ds, a, -, hr⟩ | ⟨reply, addr, hr⟩ <;> rw [hr]
  · rfl
  · exact sendBytes_q _ _ _

/-- R243: the data phase takes the declared bytes. -/
theorem dataPhase_consumed (p : Pipe) (s : State) : QueuesConsumed s (dataPhase p s) := by
  rcases dataPhase_cases p s with ⟨-, h⟩ | ⟨-, h⟩ <;> rw [h]
  · exact .of_eq rfl
  · exact .of_set_drop p _ (routePacket_q _ _ _)

/-- R242: the header phase takes nine bytes, and the data phase may follow it. -/
theorem headerPhase_consumed (p : Pipe) (s : State) : QueuesConsumed s (headerPhase p s) := by
  rcases headerPhase_cases p s with ⟨-, h⟩ | ⟨hd, -, -, -, h⟩ | ⟨hd, -, -, -, h⟩ <;> rw [h]
  · exact .of_eq rfl
  · exact .of_set_drop p 9 rfl
  · exact .trans (.of_set_drop p 9 rfl) (dataPhase_consumed p _)

theorem routePipe_consumed (p : Pipe) (s : State) : QueuesConsumed s (routePipe p s) := by
  rcases routePipe_cases p s with ⟨-, h⟩ | ⟨-, -, h⟩ | ⟨-, -, h⟩ <;> rw [h]
  · exact .of_eq rfl
  · exact dataPhase_consumed p s
  · exact headerPhase_consumed p s

/-- R62, R221, R240: a host command takes bytes from the queues at most; PIPE_READ and ROUTE_STEP are those that do. -/
theorem exec_consumed {i : Instr} {s t : State} (hirq : i ≠ .irqService) (h : exec i s = .next t) : QueuesConsumed s t := by
  cases i with
  | irqService => exact absurd rfl hirq
  | pipeRead pipe =>
    cases h
    split
    · exact .of_eq rfl
    · split
      · exact .of_eq rfl
      · next b s' hp => exact .trans (queuePop_consumed hp) (.of_eq rfl)
  | routeStep pipe =>
    cases h
    refine gate_consumed _ ?_
    unfold routeStepBody
    split
    · exact .of_eq rfl
    · exact routePipe_consumed _ s
  | init =>
    rw [exec_init_eq, initSequence_eq] at h
    cases h
    exact .of_eq rfl
  | setRxAddr pipe hi32 lo8 =>
    cases h
    refine gate_consumed _ ?_
    unfold setRxAddrBody
    split
    · exact .of_eq rfl
    · next p _ => cases p <;> exact .of_eq rfl
  | setChannel ch =>
    cases h
    exact gate_consumed _ (.of_eq (by unfold setChannelBody; split <;> rfl))
  | enablePipes mask =>
    cases h
    exact gate_consumed _ (.of_eq (by unfold enablePipesBody; split <;> rfl))
  | disablePipes mask =>
    cases h
    exact gate_consumed _ (.of_eq (by unfold disablePipesBody; split <;> rfl))
  | writePayload data =>
    cases h
    exact gate_consumed _ (.of_eq (sendBytes_q _ _ _))
  | dataReady =>
    cases h
    exact gate_consumed _ (.of_eq (dataReadyBody_q s))
  | setTxAddr _ _ | resetToRx =>
    cases h
    exact gate_consumed _ (.of_eq rfl)
  | pipeCount _ | encodeFrame _ =>
    cases h
    exact .of_eq (by split <;> rfl)
  | getCksumErr | getResetCnt | getMode | checksum _ | decodeFrame _ =>
    cases h
    exact .of_eq rfl

theorem foregroundStep_consumed {s t : State} (h : foregroundStep s = .next t) : QueuesConsumed s t := by
  rcases foregroundStep_cases s with ⟨snd, -, hf⟩ | ⟨-, -, hf⟩ | ⟨m, ms, i, -, -, hd, hf⟩ | ⟨m, ms, e, -, -, -, hf⟩
  · cases hf.symm.trans h
    exact .of_eq (senderLoop_q snd s)
  · cases h.symm.trans hf
    exact .of_eq rfl
  · exact exec_consumed (s := { s with hostIn := ms }) (decodeMessage_ne_irqService hd) (hf.symm.trans h)
  · cases hf.symm.trans h
    cases e <;> exact .of_eq rfl

/-- R61: a step that is not the interrupt agent's adds no byte to a queue; a hardware reset empties all of them. -/
theorem step_consumed {s t : State} (h : step s = .next t) (hi : nextMove s ≠ .interrupt) : QueuesConsumed s t := by
  by_cases hr : ResetNext s
  · obtain ⟨u, hu⟩ := hr
    rw [step_eq_perform, hu] at h
    cases h
    exact fun p => ⟨(s.q.get p).length, by simp [hardwareReset, State.resetWith]⟩
  rcases step_cases h hr with ⟨-, hx⟩ | ⟨hm, -⟩ | ⟨-, hx⟩
  · exact foregroundStep_consumed (s := moved s) hx
  · exact absurd hm hi
  · exact .of_eq (congrArg State.q hx :)

/-! ## Bytes pushed -/

/-- R61: after pushing, the queue holds the first `QUEUE_CAP` of its bytes and the new ones. -/
theorem queuePushAll_get (p : Pipe) (bs : List Byte) (s : State) (h : (s.q.get p).length ≤ s.params.queueCap) :
    (queuePushAll p bs s).q.get p = (s.q.get p ++ bs).take s.params.queueCap := by
  simp only [queuePushAll_eq, PerPipe.get_set_same, queueRoom]
  rw [List.take_append, List.take_of_length_le h]

/-- R60: pushing keeps every queue within its capacity. -/
theorem queuePushAll_bounded (p : Pipe) (bs : List Byte) {s : State} (h : QueuesBounded s) :
    QueuesBounded (queuePushAll p bs s) := by
  intro p'
  have hcap : (queuePushAll p bs s).params = s.params := by rw [queuePushAll_eq]
  rw [hcap]
  by_cases hp : p' = p
  · subst hp
    exact queuePushAll_length_le p' bs s (h p')
  · simp only [queueCount, queuePushAll_eq, PerPipe.get_set_ne _ _ _ _ hp]
    exact h p'

theorem deliver_bounded (p : Pipe) (f : List Byte) {s : State} (h : QueuesBounded s) : QueuesBounded (deliver p f s) := by
  cases hv : (decodeFrameOf f).valid <;> simp only [deliver, hv]
  · exact h
  · exact queuePushAll_bounded p _ h

/-- R215: a service keeps every queue within its capacity. -/
theorem exec_irqService_bounded {s t : State} (h : exec .irqService s = .next t) (hq : QueuesBounded s) : QueuesBounded t := by
  cases h
  unfold demultiplex
  split
  · exact hq
  · split
    · split
      · rw [receive_eq]
        exact deliver_bounded _ _ hq
      · exact hq
    · exact hq

/-- Settles O36: one push, pushes in order, and the steps that push nothing. -/
theorem queuePushDropsWhenFull : Obligations.QueuePushDropsWhenFull := by
  refine ⟨fun s p b => ⟨queuePush_of_lt p b s, queuePush_of_full p b s⟩, fun s p bs h => queuePushAll_get p bs s h, ?_⟩
  exact fun s t h hi => step_consumed h hi

end Sys2Proof.Machine

/-! SUPPORT. The invariant of the machine (10_state R21, R28, R31, R33, R34, 20_memory R60, 60_exceptions R301): one rule for each
part of the state that it reads, then what each operation, agent and step makes of it. -/

namespace Sys2Proof.Machine

/-! ## One rule per part of the state -/

/-- The part of the state that the invariant reads. -/
def invariantView (s : State) : Params × Mode × Bool × Bool × Bool × BitVec 7 × PerPipe (List Byte) × Nat × Nat ×
    PerPipe Bool × PerPipe Bool × PerPipe Header × Option Sender :=
  (s.params, s.mode, s.ce, s.irqEn, s.irqPend, s.cfgChannel, s.q, s.cntCksumErr, s.cntReset, s.rtErr, s.rtHdrValid, s.rtHdr,
    s.sender)

/-- The invariant does not depend on the rest of the state. -/
theorem MachineInvariant.of_view_eq {s t : State} (h : MachineInvariant s) (e : invariantView t = invariantView s) :
    MachineInvariant t := by
  simp only [invariantView, Prod.mk.injEq] at e
  obtain ⟨params, mode, ce, irqEn, irqPend, channel, q, cksum, reset, err, valid, hdr, sender⟩ := e
  exact
    { params := by simpa only [params] using h.params
      queues := by simpa only [QueuesBounded, queueCount, params, q] using h.queues
      counters := by simpa only [CountersBounded, params, cksum, reset] using h.counters
      standby := by simpa only [StandbyQuiet, mode, ce, irqEn, sender] using h.standby
      active := by simpa only [ActiveEnabled, mode, ce, irqEn] using h.active
      channel := by simpa only [ChannelLegal, mode, channel] using h.channel
      pending := by simpa only [PendingMasked, irqEn, irqPend] using h.pending
      latches := by simpa only [LatchesConsistent, err, valid, hdr] using h.latches
      sender := by simpa only [SenderConsistent, sender] using h.sender }

section
variable {s : State}

/-- R301: with interrupts enabled the mode is not Standby. -/
theorem MachineInvariant.active_of_irqEn (h : MachineInvariant s) (he : s.irqEn = true) : s.mode ≠ .standby := by
  intro hs
  obtain ⟨-, hoff, -⟩ := h.standby hs
  exact absurd he (by simp [hoff])

/-- R301: with a live sender it is not either. -/
theorem MachineInvariant.active_of_sender {snd : Sender} (h : MachineInvariant s) (he : s.sender = some snd) :
    s.mode ≠ .standby := by
  intro hs
  obtain ⟨-, -, hnone⟩ := h.standby hs
  exact absurd he (by simp [hnone])

/-- R23, R182, R185, R212: a mode change outside Standby that leaves the enable line high. -/
theorem MachineInvariant.withMode (h : MachineInvariant s) (hs : s.mode ≠ .standby) {m : Mode} (hm : m ≠ .standby) :
    MachineInvariant { s with mode := m, ce := true } where
  params := h.params
  queues := h.queues
  counters := h.counters
  standby ht := absurd ht hm
  active _ := ⟨rfl, (h.active hs).2⟩
  channel _ := h.channel hs
  pending := h.pending
  latches := h.latches
  sender := h.sender

/-- R21: a legal channel. -/
theorem MachineInvariant.withChannel (h : MachineInvariant s) {ch : BitVec 7} (hc : ch.toNat ≤ 125) :
    MachineInvariant { s with cfgChannel := ch } :=
  { h with channel := fun _ => hc }

/-- R130: INIT leaves Standby, or starts anew outside it. -/
theorem MachineInvariant.initialised (h : MachineInvariant s) :
    MachineInvariant { s with
      mode := .receiving, ce := true, irqEn := true, irqPend := false, cfgChannel := s.params.defaultChannel } where
  params := h.params
  queues := h.queues
  counters := h.counters
  standby := nofun
  active _ := ⟨rfl, rfl⟩
  channel _ := by
    obtain ⟨-, hch, -⟩ := h.params
    exact hch
  pending := nofun
  latches := h.latches
  sender := h.sender

/-- R28: the latch may be set while interrupts are enabled, and cleared at any time. -/
theorem MachineInvariant.withPending (h : MachineInvariant s) {b : Bool} (hb : s.irqEn = false → b = false) :
    MachineInvariant { s with irqPend := b } :=
  { h with pending := hb }

/-- R60: queues within their capacity. -/
theorem MachineInvariant.withQueues (h : MachineInvariant s) {q : PerPipe (List Byte)} (hq : QueuesBounded { s with q := q }) :
    MachineInvariant { s with q := q } :=
  { h with queues := hq }

/-- R62: bytes taken from a queue. -/
theorem MachineInvariant.dequeued (h : MachineInvariant s) (p : Pipe) (k : Nat) :
    MachineInvariant { s with q := s.q.set p ((s.q.get p).drop k) } :=
  h.withQueues (QueuesConsumed.of_set_drop (s := s) p k rfl |>.bounded rfl h.queues)

/-- R13, R31: a saturating counter stays within its width. -/
theorem satInc_le {p : Params} {c : Nat} (h : c ≤ 2 ^ p.cntW - 1) : satInc p c ≤ 2 ^ p.cntW - 1 := by
  unfold satInc
  split <;> omega

/-- R283: an invalid frame counted. -/
theorem MachineInvariant.countedCksum (h : MachineInvariant s) :
    MachineInvariant { s with cntCksumErr := satInc s.params s.cntCksumErr } :=
  { h with counters := ⟨satInc_le h.counters.1, h.counters.2⟩ }

/-- R185: a run of the recovery path counted. -/
theorem MachineInvariant.countedReset (h : MachineInvariant s) :
    MachineInvariant { s with cntReset := satInc s.params s.cntReset } :=
  { h with counters := ⟨h.counters.1, satInc_le h.counters.2⟩ }

/-- R34, R246: what the invariant says of one pipe's latches. -/
def LatchConsistent (err valid : Bool) (hdr : Header) : Prop :=
  (err = true → valid = true ∧ 21 < hdr.count.toNat) ∧ (valid = true → err = false → hdr.count.toNat ≤ 21)

/-- R34: one pipe's latches written. -/
theorem MachineInvariant.withLatch (h : MachineInvariant s) (p : Pipe) {err valid : Bool} {hdr : Header}
    (hc : LatchConsistent err valid hdr) :
    MachineInvariant { s with
      rtErr := s.rtErr.set p err, rtHdrValid := s.rtHdrValid.set p valid, rtHdr := s.rtHdr.set p hdr } :=
  { h with
    latches := fun p' => by
      by_cases hp : p' = p
      · subst hp
        simp only [PerPipe.get_set_same]
        exact hc
      · simpa only [PerPipe.get_set_ne _ _ _ _ hp] using h.latches p' }

/-- R33, R183: what the invariant says of a live transient. -/
def SenderValid (snd : Sender) : Prop :=
  snd.len.toNat = snd.data.length ∧ snd.sent.toNat = snd.k ∧ snd.k < frameCount snd.data.length

/-- R33: the transient written outside Standby, or ended. -/
theorem MachineInvariant.withSender (h : MachineInvariant s) (hs : s.mode ≠ .standby) {o : Option Sender}
    (ho : ∀ snd, o = some snd → SenderValid snd) : MachineInvariant { s with sender := o } :=
  { h with standby := fun ht => absurd ht hs, sender := ho }

/-! ## The recovery path and the sender -/

/-- R284, R185: a firing of the watchdog, or the recovery path on demand, outside Standby. -/
theorem MachineInvariant.recovered (h : MachineInvariant s) (hs : s.mode ≠ .standby) :
    MachineInvariant { s with mode := .receiving, ce := true, cntReset := satInc s.params s.cntReset } :=
  (h.withMode hs (m := .receiving) nofun).countedReset

/-- R183: the transient after a frame that is not the last. -/
theorem SenderValid.next {snd snd' : Sender} (h : SenderValid snd) (data : snd'.data = snd.data) (len : snd'.len = snd.len)
    (k : snd'.k = snd.k + 1) (sent : snd'.sent = snd.sent + 1#8) (more : snd.k + 1 < frameCount snd.len.toNat) :
    SenderValid snd' := by
  obtain ⟨hlen, hsent, -⟩ := h
  have hnine : frameCount snd.len.toNat ≤ 9 := frameCount_le_nine _ (by have := snd.len.isLt; omega)
  refine ⟨by rw [len, data, hlen], ?_, by rwa [k, data, ← hlen]⟩
  rw [sent, k, BitVec.toNat_add, hsent]
  exact Nat.mod_eq_of_lt (a := snd.k + 1) (by omega)

/-- R183: a transient that is live after an iteration of the loop still has frames to send. -/
theorem senderLoop_senderValid {snd snd' : Sender} (h : SenderValid snd) (he : (senderLoop snd s).sender = some snd') :
    SenderValid snd' := by
  rcases senderLoop_outcome snd s with
    ⟨n, hn, -, -, -, hdata, hlen, ⟨-, rfl, -⟩ | ⟨-, hk, hsent, hmore, -⟩⟩ | ⟨r, hn, -⟩
  · cases hn.symm.trans he
    exact h
  · cases hn.symm.trans he
    exact h.next hdata hlen hk hsent hmore
  · cases hn.symm.trans he

/-- R181 to R184: the sender's loop waits on, fires the watchdog, or sends a frame. -/
theorem MachineInvariant.senderLoop (h : MachineInvariant s) (hs : s.mode ≠ .standby) {snd : Sender} (hv : SenderValid snd) :
    MachineInvariant (senderLoop snd s) := by
  have hsnd : ∀ n, (Machine.senderLoop snd s).sender = some n → SenderValid n := fun _ => senderLoop_senderValid hv
  rcases senderLoop_endings snd s with ⟨-, e⟩ | e | ⟨-, e⟩
  · rw [e] at hsnd ⊢
    exact (h.withSender hs hsnd).of_view_eq rfl
  · rw [e]
    exact ((h.withSender hs (o := none) nofun).recovered hs).of_view_eq rfl
  · rw [e, transmitFrame_eq]
    exact ((h.withSender hs hsnd).withMode hs (m := .transmitting) nofun).of_view_eq rfl

/-- R180, R183: a send of at most 255 bytes begun outside Standby. -/
theorem MachineInvariant.sendBytes (h : MachineInvariant s) (hs : s.mode ≠ .standby) (reply : SendReply) {data : List Byte}
    (hl : data.length ≤ 255) : MachineInvariant (sendBytes reply data s) :=
  MachineInvariant.senderLoop (s := clockSampled s) (h.of_view_eq rfl) hs
    ⟨by rw [BitVec.toNat_ofNat]; exact Nat.mod_eq_of_lt (by omega), rfl, frameCount_pos _⟩

/-! ## The router -/

/-- R240, R254: a packet of at most 21 data bytes is dispatched, dropped, or forwarded. -/
theorem MachineInvariant.routePacket (h : MachineInvariant s) (hs : s.mode ≠ .standby) (hd : Header) {data : List Byte}
    (hl : data.length ≤ 21) : MachineInvariant (routePacket hd data s) := by
  rcases routePacket_cases hd data s with ⟨cs, ds, a, -, e⟩ | ⟨reply, addr, e⟩ <;> rw [e]
  · exact h.of_view_eq rfl
  · refine MachineInvariant.sendBytes (s := writeTxAddr _ _ s) (h.of_view_eq rfl) hs reply ?_
    rw [List.length_append, header_bytes_length]
    omega

/-- R243: the data phase, begun with a header latched on a pipe that has not stopped. -/
theorem MachineInvariant.dataPhase (h : MachineInvariant s) (hs : s.mode ≠ .standby) {p : Pipe} (he : s.rtErr.get p = false)
    (hv : s.rtHdrValid.get p = true) : MachineInvariant (dataPhase p s) := by
  rcases dataPhase_cases p s with ⟨-, e⟩ | ⟨-, e⟩ <;> rw [e]
  · exact h.of_view_eq rfl
  · have hcount : (s.rtHdr.get p).count.toNat ≤ 21 := (h.latches p).2 hv he
    have hfree : LatchConsistent (s.rtErr.get p) false (s.rtHdr.get p) := ⟨by simp [he], nofun⟩
    have htaken : MachineInvariant { s with
        q := s.q.set p ((s.q.get p).drop (s.rtHdr.get p).count.toNat), rtHdrValid := s.rtHdrValid.set p false } :=
      ((h.dequeued p (s.rtHdr.get p).count.toNat).withLatch p hfree).of_view_eq (by simp only [invariantView, PerPipe.set_get])
    exact htaken.routePacket hs _ ((List.length_take_le _ _).trans hcount)

/-- R242, R246: the header phase, begun on a pipe that has not stopped. -/
theorem MachineInvariant.headerPhase (h : MachineInvariant s) (hs : s.mode ≠ .standby) {p : Pipe} (he : s.rtErr.get p = false) :
    MachineInvariant (headerPhase p s) := by
  rcases headerPhase_cases p s with ⟨-, e⟩ | ⟨hd, -, -, hbig, e⟩ | ⟨hd, -, -, hsmall, e⟩ <;> rw [e]
  · exact h.of_view_eq rfl
  · have hstop : LatchConsistent true true hd := ⟨fun _ => ⟨rfl, hbig⟩, nofun⟩
    exact ((h.dequeued p 9).withLatch p hstop).of_view_eq rfl
  · have hlatch : LatchConsistent (s.rtErr.get p) true hd := ⟨by simp [he], fun _ _ => hsmall⟩
    have hlatched : MachineInvariant { s with
        q := s.q.set p ((s.q.get p).drop 9), rtHdr := s.rtHdr.set p hd, rtHdrValid := s.rtHdrValid.set p true } :=
      ((h.dequeued p 9).withLatch p hlatch).of_view_eq (by simp only [invariantView, PerPipe.set_get])
    exact hlatched.dataPhase hs he (PerPipe.get_set_same _ _ _)

/-- R240: ROUTE_STEP on a pipe. -/
theorem MachineInvariant.routePipe (h : MachineInvariant s) (hs : s.mode ≠ .standby) (p : Pipe) :
    MachineInvariant (routePipe p s) := by
  rcases routePipe_cases p s with ⟨-, e⟩ | ⟨he, hv, e⟩ | ⟨he, -, e⟩ <;> rw [e]
  · exact h.of_view_eq rfl
  · exact h.dataPhase hs he hv
  · exact h.headerPhase hs he

/-! ## The operations -/

/-- R105: behind the gate a command need only be looked at outside Standby. -/
theorem MachineInvariant.gate (h : MachineInvariant s) (o : Op) {body : State → State}
    (hb : s.mode ≠ .standby → MachineInvariant (body s)) : MachineInvariant (gate o body s) := by
  by_cases hm : s.mode = .standby
  · rw [gate_closed o body s hm]
    exact h.of_view_eq rfl
  · rw [gate_open o body s hm]
    exact hb hm

/-- R132: SET_CHANNEL writes a channel of at most 125. -/
theorem MachineInvariant.setChannelBody (h : MachineInvariant s) (ch : Byte) : MachineInvariant (setChannelBody ch s) := by
  unfold Machine.setChannelBody
  split
  · next hc =>
    have hle : ch.toNat ≤ 125 := of_decide_eq_true hc
    have hch : (ch.setWidth 7).toNat ≤ 125 := by
      rw [BitVec.toNat_setWidth]
      exact (Nat.mod_le _ _).trans hle
    exact (h.withChannel hch).of_view_eq rfl
  · exact h.of_view_eq rfl

/-- R216: DATA_READY outside Standby may fire the watchdog. -/
theorem MachineInvariant.dataReadyBody (h : MachineInvariant s) (hs : s.mode ≠ .standby) :
    MachineInvariant (dataReadyBody s) := by
  unfold Machine.dataReadyBody
  split
  · split
    · rw [watchdogFires_eq]
      exact (h.recovered hs).of_view_eq rfl
    · exact h.of_view_eq rfl
  · exact h.of_view_eq rfl

/-- Every host command whose write fits one message. -/
theorem MachineInvariant.exec {i : Instr} {t : State} (h : MachineInvariant s) (hirq : i ≠ .irqService)
    (hfit : ∀ data, i = .writePayload data → data.length ≤ 255) (hx : exec i s = .next t) : MachineInvariant t := by
  cases i with
  | irqService => exact absurd rfl hirq
  | init =>
    rw [exec_init_eq, initSequence_eq] at hx
    cases hx
    exact h.initialised.of_view_eq rfl
  | setChannel ch =>
    cases hx
    exact h.gate _ fun _ => h.setChannelBody ch
  | setRxAddr pipe hi32 lo8 =>
    cases hx
    refine h.gate _ fun _ => ?_
    unfold setRxAddrBody
    split
    · exact h.of_view_eq rfl
    · next p _ => cases p <;> exact h.of_view_eq rfl
  | setTxAddr hi32 lo8 =>
    cases hx
    exact h.gate _ fun _ => h.of_view_eq rfl
  | enablePipes mask =>
    cases hx
    refine h.gate _ fun _ => ?_
    unfold enablePipesBody
    split <;> exact h.of_view_eq rfl
  | disablePipes mask =>
    cases hx
    refine h.gate _ fun _ => ?_
    unfold disablePipesBody
    split <;> exact h.of_view_eq rfl
  | writePayload data =>
    cases hx
    exact h.gate _ fun hs => h.sendBytes hs .write (hfit data rfl)
  | resetToRx =>
    cases hx
    refine h.gate _ fun hs => ?_
    rw [resetToReceive_eq]
    exact (h.recovered hs).of_view_eq rfl
  | dataReady =>
    cases hx
    exact h.gate _ h.dataReadyBody
  | routeStep pipe =>
    cases hx
    refine h.gate _ fun hs => ?_
    unfold routeStepBody
    split
    · exact h.of_view_eq rfl
    · exact h.routePipe hs _
  | pipeRead pipe =>
    cases hx
    split
    · exact h.of_view_eq rfl
    · next p _ =>
      cases hq : s.q.get p with
      | nil =>
        simp only [queuePop, hq]
        exact h.of_view_eq rfl
      | cons b bs =>
        simp only [queuePop, hq]
        exact (h.dequeued p 1).of_view_eq (by rw [hq]; rfl)
  | pipeCount _ | encodeFrame _ =>
    cases hx
    split <;> exact h.of_view_eq rfl
  | getCksumErr | getResetCnt | getMode | checksum _ | decodeFrame _ =>
    cases hx
    exact h.of_view_eq rfl

/-- R210: a service, which runs with interrupts enabled. -/
theorem MachineInvariant.service {t : State} (h : MachineInvariant s) (he : s.irqEn = true)
    (hx : Machine.exec .irqService s = .next t) : MachineInvariant t := by
  have hq : QueuesBounded t := exec_irqService_bounded hx h.queues
  have hserved : MachineInvariant { s with irqPend := false } := h.withPending fun _ => rfl
  rcases exec_irqService_cases s with ⟨-, tr, e⟩ | ⟨-, p, tr, q, n, e⟩ | ⟨-, p, tr, e⟩ | ⟨-, tr, cs, -, e⟩ <;>
    cases e.symm.trans hx
  · exact (hserved.withMode (h.active_of_irqEn he) (m := .receiving) nofun).of_view_eq rfl
  · exact (hserved.withQueues (q := q) hq).of_view_eq rfl
  · exact hserved.countedCksum.of_view_eq rfl
  · exact hserved.of_view_eq rfl

/-! ## The agents -/

/-- R102: a write that decodes has at most 255 bytes, which its length byte counts. -/
theorem length_le_of_decode_writePayload {m : Message} {data : List Byte} (h : decodeMessage m = .ok (.writePayload data)) :
    data.length ≤ 255 := by
  obtain ⟨o, -, hl, ha⟩ := decodeMessage_eq_ok h
  cases o <;> cases ha
  have := (m.rest.headD 0#8).isLt
  simp only [Op.format, operandLength] at hl
  rw [List.length_drop]
  omega

theorem MachineInvariant.foregroundStep {t : State} (h : MachineInvariant s) (hx : foregroundStep s = .next t) :
    MachineInvariant t := by
  rcases foregroundStep_cases s with ⟨snd, hs, e⟩ | ⟨-, -, e⟩ | ⟨m, ms, i, -, -, hd, e⟩ | ⟨m, ms, err, -, -, -, e⟩
  · cases e.symm.trans hx
    exact h.senderLoop (h.active_of_sender hs) (h.sender snd hs)
  · cases e.symm.trans hx
    exact h
  · refine MachineInvariant.exec (s := { s with hostIn := ms }) (h.of_view_eq rfl) (decodeMessage_ne_irqService hd) ?_
      (e.symm.trans hx)
    rintro data rfl
    exact length_le_of_decode_writePayload hd
  · cases e.symm.trans hx
    cases err <;> exact h.of_view_eq rfl

theorem MachineInvariant.interruptStep {t : State} (h : MachineInvariant s) (hx : interruptStep s = .next t) :
    MachineInvariant t := by
  rcases interruptStep_cases s with ⟨he, -, e⟩ | ⟨-, e⟩
  · exact h.service he (e.symm.trans hx)
  · cases e.symm.trans hx
    exact h

/-- R76: every move of every agent; a hardware reset makes the invariant hold anew. -/
theorem MachineInvariant.perform {t : State} (h : MachineInvariant s) (m : Move) (hx : perform m s = .next t) :
    MachineInvariant t := by
  cases m with
  | foreground => exact h.foregroundStep hx
  | interrupt => exact h.interruptStep hx
  | irqLine level =>
    cases hx
    have hmask : s.irqEn = false → (s.irqPend || (s.irqEn && fallingEdge s level)) = false := fun he => by
      simp [he, h.pending he]
    exact (h.withPending hmask).of_view_eq rfl
  | reset u =>
    cases hx
    exact (invariantHoldsAtReset s.params u [] h.params).of_view_eq rfl
  | submit _ | clock _ _ | status _ | rxFrame _ =>
    cases hx
    exact h.of_view_eq rfl

end

/-- Settles O54: a step is a move, performed on the state without it. -/
theorem everyStepKeepsTheInvariant : Obligations.EveryStepKeepsTheInvariant := by
  intro s t h hx
  rw [step_eq_perform] at hx
  exact MachineInvariant.perform (s := moved s) (h.of_view_eq rfl) (nextMove s) hx

end Sys2Proof.Machine

/-! SUPPORT. What the next step is, by the agent that moves (20_memory R76, R78, R100), and how a waiting command goes on (R181 to
R184). -/

namespace Sys2Proof.Machine

/-! ## The next step -/

/-- R100: a message that decodes is executed. -/
theorem runMessage_of_ok {m : Message} {i : Instr} (h : decodeMessage m = .ok i) (s : State) : runMessage m s = exec i s := by
  rw [runMessage, h]

/-- R28: an enabled interrupt is served. -/
theorem interruptStep_of_enabled {s : State} (he : s.irqEn = true) (hp : s.irqPend = true) :
    interruptStep s = exec .irqService s :=
  if_pos (show irqEnabled s = true by rw [irqEnabled, he, hp]; rfl)

/-- Settles O5: the foreground's three steps, the service, and each move of the environment. -/
theorem stepRunsTheDecodedInstruction : Obligations.StepRunsTheDecodedInstruction := by
  intro s
  refine ⟨fun m ms i hf hs hi hd => ?_, fun snd hf hs => ?_, fun hf hs hi => ?_, fun hm he hp => ?_, fun m hm => ?_,
    fun c later hm => ?_, fun r hm => ?_, fun f hm => ?_⟩
  · rw [step_of_foreground s hf, foregroundStep_of_message (s := moved s) hs hi]
    exact runMessage_of_ok hd _
  · rw [step_of_foreground s hf]
    exact foregroundStep_of_sender (s := moved s) hs
  · rw [step_of_foreground s hf]
    exact foregroundStep_of_idle (s := moved s) hs hi
  · rw [step_of_interrupt s hm]
    exact interruptStep_of_enabled (s := moved s) he hp
  all_goals
    rw [step_eq_perform, hm]
    rfl

/-! ## A waiting command -/

/-- R180, R240: the result bytes of the command the sender works for. -/
def replyBytes (reply : SendReply) (sent : Byte) : List Byte :=
  match reply with
  | .write => [sent]
  | .fwdUp => [2#8, 0#8]
  | .fwdDown c => [3#8, BitVec.ofNat 8 c.num]

/-- R183, R184: everything the end of a send does. -/
theorem finishSend_eq_replyBytes (snd : Sender) (st : Status) (s : State) :
    finishSend snd st s =
      { s with sender := none, hostOut := s.hostOut ++ [st.code :: replyBytes snd.reply snd.sent] } := by
  unfold finishSend
  cases snd.reply <;> rfl

/-- R180, R240: those bytes by the command that waits. -/
theorem replyBytes_of_reply (reply : SendReply) (sent : Byte) :
    (reply = .write → replyBytes reply sent = [sent]) ∧ (reply = .fwdUp → replyBytes reply sent = [2#8, 0#8]) ∧
      ∀ c, reply = .fwdDown c → replyBytes reply sent = [3#8, BitVec.ofNat 8 c.num] := by
  refine ⟨?_, ?_, fun c => ?_⟩ <;> rintro rfl <;> rfl

/-- R181: within the timeout the command waits on. -/
theorem senderExpiry_of_le {snd : Sender} {s : State} (h : (s.now - snd.tWait).toNat ≤ s.params.txTimeoutMs.toNat) :
    senderExpiry snd s = { clockSampled s with sender := some snd } := by
  rcases senderExpiry_cases snd s with ⟨hx, -⟩ | ⟨-, e⟩
  · exact absurd (of_decide_eq_true hx) (Nat.not_lt.2 h)
  · exact e

/-- R184, R284: past it the watchdog fires and the command is answered. -/
theorem senderExpiry_of_lt {snd : Sender} {s : State} (h : s.params.txTimeoutMs.toNat < (s.now - snd.tWait).toNat) :
    senderExpiry snd s =
      { clockSampled s with
        mode := .receiving, ce := true, cntReset := satInc s.params s.cntReset, conditions := s.conditions ++ [.txTimeout],
        radioTrace := s.radioTrace ++ [.clearFlags true true true, .ce false, .setMode .rx, .ce true],
        sender := none, hostOut := s.hostOut ++ [0x02#8 :: replyBytes snd.reply snd.sent] } := by
  rcases senderExpiry_cases snd s with ⟨-, e⟩ | ⟨hx, -⟩
  · rw [e, finishSend_eq_replyBytes, watchdogFires_eq]
    rfl
  · exact absurd (hx.symm.trans (expired_of_lt h)) nofun

/-- R181: completion is tested first; a transmission in flight leaves the decision to the clock. -/
theorem senderLoop_of_transmitting (snd : Sender) {s : State} (h : s.mode = .transmitting) :
    senderLoop snd s = senderExpiry snd s := by
  rcases senderLoop_cases snd s with ⟨-, e⟩ | ⟨hm, -⟩ | ⟨hm, -⟩
  · exact e
  all_goals exact absurd h hm

/-- R183: the transient after frame `snd.k` is sent, the wait for the next one begun at `t`. -/
def Sender.afterFrame (snd : Sender) (t : Clock) : Sender := { snd with k := snd.k + 1, sent := snd.sent + 1#8, tWait := t }

/-- R183: a frame that is not the last is sent, and the wait for the next one begins with two samples of the clock. -/
theorem senderLoop_of_more {snd : Sender} {s : State} (hm : s.mode ≠ .transmitting)
    (hk : snd.k + 1 < frameCount snd.len.toNat) :
    senderLoop snd s =
      senderExpiry (snd.afterFrame (sample 1 s)) (clockSampled (transmitFrame (chunk snd.data snd.k) s)) := by
  rcases senderLoop_cases snd s with ⟨ht, -⟩ | ⟨-, -, e⟩ | ⟨-, hlast, -⟩
  · exact absurd ht hm
  · rw [e, transmitFrame_eq]
    rfl
  · exact absurd hk (Nat.not_lt.2 hlast)

/-- R181, R183: within the timeout the command then waits for the next frame. -/
theorem senderLoop_of_more_of_le {snd : Sender} {s : State} (hm : s.mode ≠ .transmitting)
    (hk : snd.k + 1 < frameCount snd.len.toNat) (h : (sample 2 s - sample 1 s).toNat ≤ s.params.txTimeoutMs.toNat) :
    senderLoop snd s =
      { afterSamples 3 s with
        mode := .transmitting, txStart := s.now, ce := true,
        radioTrace := s.radioTrace ++
          [.ce false, .setMode .tx, .flushTx, .writeTxPayload (frameOf (chunk snd.data snd.k)), .ce true],
        sender := some (snd.afterFrame (sample 1 s)) } := by
  rw [senderLoop_of_more hm hk, senderExpiry_of_le (snd := snd.afterFrame (sample 1 s))
    (s := clockSampled (transmitFrame (chunk snd.data snd.k) s)) h, transmitFrame_eq]
  rfl

/-- R184, R284: past it the write is abandoned, the frame sent counted in the response. -/
theorem senderLoop_of_more_of_lt {snd : Sender} {s : State} (hm : s.mode ≠ .transmitting)
    (hk : snd.k + 1 < frameCount snd.len.toNat) (h : s.params.txTimeoutMs.toNat < (sample 2 s - sample 1 s).toNat) :
    senderLoop snd s =
      { afterSamples 3 s with
        mode := .receiving, txStart := s.now, ce := true, cntReset := satInc s.params s.cntReset,
        conditions := s.conditions ++ [.txTimeout],
        radioTrace := s.radioTrace ++
          [.ce false, .setMode .tx, .flushTx, .writeTxPayload (frameOf (chunk snd.data snd.k)), .ce true,
           .clearFlags true true true, .ce false, .setMode .rx, .ce true],
        sender := none, hostOut := s.hostOut ++ [0x02#8 :: replyBytes snd.reply (snd.sent + 1#8)] } := by
  rw [senderLoop_of_more hm hk, senderExpiry_of_lt (snd := snd.afterFrame (sample 1 s))
    (s := clockSampled (transmitFrame (chunk snd.data snd.k) s)) h, transmitFrame_eq]
  simp only [clockSampled_radioTrace, List.append_assoc]
  rfl

/-- R183: the last frame is sent, and the command responds. -/
theorem senderLoop_of_last {snd : Sender} {s : State} (hm : s.mode ≠ .transmitting)
    (hk : snd.k + 1 = frameCount snd.len.toNat) :
    senderLoop snd s =
      { clockSampled s with
        mode := .transmitting, txStart := s.now, ce := true,
        radioTrace := s.radioTrace ++
          [.ce false, .setMode .tx, .flushTx, .writeTxPayload (frameOf (chunk snd.data snd.k)), .ce true],
        sender := none, hostOut := s.hostOut ++ [0x00#8 :: replyBytes snd.reply (snd.sent + 1#8)] } := by
  rcases senderLoop_cases snd s with ⟨ht, -⟩ | ⟨-, hmore, -⟩ | ⟨-, -, e⟩
  · exact absurd ht hm
  · omega
  · rw [e, finishSend_eq_replyBytes, transmitFrame_eq]
    rfl

/-- Settles O24: completion first, then the frame's place in the write, then the clock. -/
theorem waitingCommandGoesOn : Obligations.WaitingCommandGoesOn := by
  intro s snd hf hs
  have hstep : step s = .next (senderLoop snd (moved s)) :=
    (step_of_foreground s hf).trans (foregroundStep_of_sender (s := moved s) hs)
  rw [hstep]
  refine ⟨fun hm hle => ?_, fun hm hlt => ?_, fun hm hlast => ?_, fun hm hmore => ⟨fun hle => ?_, fun hlt => ?_⟩⟩
  · rw [senderLoop_of_transmitting snd (s := moved s) hm, senderExpiry_of_le (s := moved s) hle, ← hs]
    rfl
  · rw [senderLoop_of_transmitting snd (s := moved s) hm, senderExpiry_of_lt (s := moved s) hlt]
    exact ⟨_, rfl, replyBytes_of_reply _ _⟩
  · rw [senderLoop_of_last (s := moved s) hm hlast]
    exact ⟨_, rfl, replyBytes_of_reply _ _⟩
  · rw [senderLoop_of_more_of_le (s := moved s) hm hmore hle]
    rfl
  · rw [senderLoop_of_more_of_lt (s := moved s) hm hmore hlt]
    exact ⟨_, rfl, replyBytes_of_reply _ _⟩

end Sys2Proof.Machine

/-! SUPPORT. Decoding and encoding are inverse (30_encoding R101 to R103). -/

namespace Sys2Proof.Machine

/-! ## Operation codes and message lengths -/

/-- R101: an operation's code names the operation. -/
theorem ofCode?_code (o : Op) : Op.ofCode? o.code = some o := by cases o <;> rfl

/-- R102: a listed code with its format's length is a command. -/
theorem decodeMessage_of_fits {m : Message} {o : Op} (ho : Op.ofCode? m.op = some o)
    (hl : m.rest.length = operandLength o.format m.rest) : decodeMessage m = .ok (assemble o m.rest) := by
  unfold decodeMessage
  rw [ho]
  exact if_pos hl

/-- R101, R102: the lengths of Laws/PerInstr.lean, for every operation. -/
theorem encode_fits : ∀ i : Instr, Laws.EncodeFits.Statement i
  | .init => Laws.EncodeFits.init
  | .setChannel ch => Laws.EncodeFits.setChannel ch
  | .setRxAddr pipe hi32 lo8 => Laws.EncodeFits.setRxAddr pipe hi32 lo8
  | .setTxAddr hi32 lo8 => Laws.EncodeFits.setTxAddr hi32 lo8
  | .enablePipes mask => Laws.EncodeFits.enablePipes mask
  | .disablePipes mask => Laws.EncodeFits.disablePipes mask
  | .writePayload data => Laws.EncodeFits.writePayload data
  | .resetToRx => Laws.EncodeFits.resetToRx
  | .dataReady => Laws.EncodeFits.dataReady
  | .pipeCount pipe => Laws.EncodeFits.pipeCount pipe
  | .pipeRead pipe => Laws.EncodeFits.pipeRead pipe
  | .getCksumErr => Laws.EncodeFits.getCksumErr
  | .getResetCnt => Laws.EncodeFits.getResetCnt
  | .getMode => Laws.EncodeFits.getMode
  | .routeStep pipe => Laws.EncodeFits.routeStep pipe
  | .checksum data => Laws.EncodeFits.checksum data
  | .encodeFrame data => Laws.EncodeFits.encodeFrame data
  | .decodeFrame frame => Laws.EncodeFits.decodeFrame frame
  | .irqService => Laws.EncodeFits.irqService

/-! ## The four bytes of `hi32` -/

/-- R103: the four bytes put together again, most significant first. -/
theorem append_hi32Bytes (h : Hi32) :
    h.extractLsb' 24 8 ++ h.extractLsb' 16 8 ++ h.extractLsb' 8 8 ++ h.extractLsb' 0 8 = h := by
  rw [BitVec.extractLsb'_append_extractLsb'_eq_extractLsb' (show 24 = 16 + 8 from rfl),
    BitVec.extractLsb'_append_extractLsb'_eq_extractLsb' (show 16 = 8 + 8 from rfl),
    BitVec.extractLsb'_append_extractLsb'_eq_extractLsb' (show 8 = 0 + 8 from rfl)]
  exact BitVec.extractLsb'_eq_self

/-- R103: four bytes put together and taken apart again. -/
theorem hi32Bytes_append (a b c d : Byte) : hi32Bytes (a ++ b ++ c ++ d) = [a, b, c, d] := by
  change [(a ++ b ++ c ++ d).extractLsb' 24 8, (a ++ b ++ c ++ d).extractLsb' 16 8,
    (a ++ b ++ c ++ d).extractLsb' 8 8, (a ++ b ++ c ++ d).extractLsb' 0 8] = _
  -- the lemmas need the width as the sum it is written as
  simp [BitVec.extractLsb'_append_eq_of_le, BitVec.extractLsb'_append_eq_of_add_le, -Nat.reduceAdd]

/-! ## Decoding what was encoded -/

/-- R102, R103: the operands of an operation's message, put together, give the operation. -/
theorem assemble_encode {i : Instr} {o : Op} (h : Op.ofCode? (encode i).op = some o) : assemble o (encode i).rest = i := by
  cases i with
  | irqService => cases h
  | setRxAddr pipe hi32 lo8 =>
    cases h
    exact congrArg (Instr.setRxAddr pipe · lo8) (append_hi32Bytes hi32)
  | setTxAddr hi32 lo8 =>
    cases h
    exact congrArg (Instr.setTxAddr · lo8) (append_hi32Bytes hi32)
  | _ =>
    cases h
    rfl

/-- R101 to R103: a host command's message decodes to it. -/
theorem decodeMessage_encode {i : Instr} (h : i.wellFormed = true) (hi : i ≠ .irqService) :
    decodeMessage (encode i) = .ok i := by
  rcases encode_fits i h with ⟨hirq, -⟩ | ⟨o, ho, hl⟩
  · exact absurd hirq hi
  · rw [decodeMessage_of_fits ho hl, assemble_encode ho]

/-- R106: the trace code is reserved as a host message. -/
theorem decodeMessage_irqServiceCode : decodeMessage ⟨irqServiceCode, []⟩ = .error (.unknownOp irqServiceCode) := rfl

/-- R101: a trace names a host command as the host's message does. -/
theorem decodeTrace_of_decodeMessage {m : Message} {i : Instr} (h : decodeMessage m = .ok i) : decodeTrace m = .ok i := by
  have hm : m ≠ ⟨irqServiceCode, []⟩ := by
    rintro rfl
    exact nomatch decodeMessage_irqServiceCode.symm.trans h
  rw [decodeTrace, if_neg hm, h]

/-- Settles O1: IRQ_SERVICE by its trace code, every other operation by its message. -/
theorem decodeOfEncodeIsTheInstruction : Obligations.DecodeOfEncodeIsTheInstruction := by
  intro i h
  by_cases hi : i = .irqService
  · subst hi
    exact ⟨rfl, absurd rfl⟩
  · have hd := decodeMessage_encode h hi
    exact ⟨decodeTrace_of_decodeMessage hd, fun _ => hd⟩

/-- Settles O3: each message is the encoding of its command. -/
theorem sampleMessagesDecode : Obligations.SampleMessagesDecode :=
  ⟨decodeMessage_encode (i := .init) rfl nofun, decodeMessage_encode (i := .setChannel 76#8) rfl nofun,
    decodeMessage_encode (i := .setRxAddr 3#8 0x12345678#32 0xC4#8) rfl nofun,
    decodeMessage_encode (i := .setTxAddr 0xF0F0F0F0#32 0xD2#8) rfl nofun,
    decodeMessage_encode (i := .enablePipes 0x0C#8) rfl nofun,
    decodeMessage_encode (i := .writePayload [1#8, 2#8, 3#8]) rfl nofun,
    decodeMessage_encode (i := .pipeRead 2#8) rfl nofun, decodeMessage_encode (i := .routeStep 1#8) rfl nofun,
    decodeMessage_irqServiceCode⟩

/-! ## Encoding what was decoded -/

/-- R102, format H1. -/
theorem eq_singleton_operandByte {rest : List Byte} (h : rest.length = 1) : [operandByte rest 0] = rest := by
  match rest, h with
  | [_], _ => rfl

/-- R102, R103, format HRA. -/
theorem eq_pipe_hi32Bytes_lo8 {rest : List Byte} (h : rest.length = 6) :
    operandByte rest 0 :: (hi32Bytes (operandHi32 rest 1) ++ [operandByte rest 5]) = rest := by
  match rest, h with
  | [p, a, b, c, d, l], _ => exact congrArg (p :: · ++ [l]) (hi32Bytes_append a b c d)

/-- R102, R103, format HTA. -/
theorem eq_hi32Bytes_lo8 {rest : List Byte} (h : rest.length = 5) :
    hi32Bytes (operandHi32 rest 0) ++ [operandByte rest 4] = rest := by
  match rest, h with
  | [a, b, c, d, l], _ => exact congrArg (· ++ [l]) (hi32Bytes_append a b c d)

/-- R102, format HV: the length byte counts the data, which therefore has at most 255 bytes. -/
theorem hvOperands_of_length {rest : List Byte} (h : rest.length = operandLength .hv rest) :
    hvOperands (rest.drop 1) = rest ∧ dataFitsHV (rest.drop 1) = true := by
  cases rest with
  | nil => simp [operandLength] at h
  | cons n data =>
    have hn : data.length = n.toNat := by
      simp only [operandLength, List.length_cons, List.headD_cons] at h
      omega
    have hle : data.length ≤ 255 := by
      have := n.isLt
      omega
    exact ⟨by simp [hvOperands, hn], decide_eq_true hle⟩

/-- R101 to R103: operands of the format's length, put together, are a well-formed operation with that message. -/
theorem encode_assemble {o : Op} {rest : List Byte} (h : rest.length = operandLength o.format rest) :
    encode (assemble o rest) = ⟨o.code, rest⟩ ∧ (assemble o rest).wellFormed = true := by
  cases o with
  | init | resetToRx | dataReady | getCksumErr | getResetCnt | getMode =>
    obtain rfl : rest = [] := List.length_eq_zero_iff.1 h
    exact ⟨rfl, rfl⟩
  | setChannel | enablePipes | disablePipes | pipeCount | pipeRead | routeStep =>
    exact ⟨congrArg (Message.mk _) (eq_singleton_operandByte h), rfl⟩
  | setRxAddr => exact ⟨congrArg (Message.mk _) (eq_pipe_hi32Bytes_lo8 h), rfl⟩
  | setTxAddr => exact ⟨congrArg (Message.mk _) (eq_hi32Bytes_lo8 h), rfl⟩
  | writePayload | checksum | encodeFrame =>
    obtain ⟨hrest, hfits⟩ := hvOperands_of_length h
    exact ⟨congrArg (Message.mk _) hrest, hfits⟩
  | decodeFrame => exact ⟨rfl, decide_eq_true h⟩

/-- Settles O2: a message that decodes has a listed code and its format's length. -/
theorem encodeOfDecodeIsTheMessage : Obligations.EncodeOfDecodeIsTheMessage := by
  intro m i h
  obtain ⟨o, hc, hl, rfl⟩ := decodeMessage_eq_ok h
  obtain ⟨he, hw⟩ := encode_assemble hl
  exact ⟨by rw [he, hc], hw, decodeMessage_ne_irqService h⟩

end Sys2Proof.Machine

/-! SUPPORT. The command gate and the responses (30_encoding R100, R104 to R106). -/

namespace Sys2Proof.Machine

/-! ## Messages that are no command -/

/-- R101: the codes of the host commands. -/
theorem code_bounds (o : Op) : o.code ≠ 0x00#8 ∧ o.code < 0x13#8 := by cases o <;> decide

/-- R106: 0x00 and the codes from 0x13 on are reserved. -/
theorem ofCode?_of_reserved {b : Byte} (h : b = 0x00#8 ∨ 0x13#8 ≤ b) : Op.ofCode? b = none := by
  rw [Option.eq_none_iff_forall_ne_some]
  intro o ho
  obtain ⟨hne, hlt⟩ := code_bounds o
  rw [code_of_ofCode? ho] at hne hlt
  rcases h with h | h
  · exact hne h
  · exact BitVec.not_le.2 hlt h

/-- R106: a reserved code is no command. -/
theorem decodeMessage_of_reserved {m : Message} (h : Op.ofCode? m.op = none) :
    decodeMessage m = .error (.unknownOp m.op) := by rw [decodeMessage, h]

/-- R106: neither is a listed code with another length than its format's. -/
theorem decodeMessage_of_badLength {m : Message} {o : Op} (ho : Op.ofCode? m.op = some o)
    (hl : m.rest.length ≠ operandLength o.format m.rest) : decodeMessage m = .error (.badLength o) := by
  unfold decodeMessage
  rw [ho]
  exact if_neg hl

/-- R106: the foreground's step answers a message that is no command. -/
theorem step_of_malformed {s : State} {m : Message} {ms : List Message} {e : DecodeError} (hf : ForegroundNext s)
    (hs : s.sender = none) (hi : s.hostIn = m :: ms) (hd : decodeMessage m = .error e) :
    step s = .next (answerMalformed e { moved s with hostIn := ms }) := by
  rw [step_of_foreground s hf, foregroundStep_of_message (s := moved s) hs hi, runMessage, hd]

/-- R104: a table of result shapes that agrees with `zeroResult` gives an operation's zeros. -/
theorem eq_zeroResult_of_mem {l : List (Op × List Byte)} (hl : ∀ row ∈ l, row.2 = zeroResult row.1) {o : Op}
    {zeros : List Byte} (h : (o, zeros) ∈ l) : zeros = zeroResult o := hl _ h

/-- Settles O4: the decoder's two errors, each with its answer. -/
theorem reservedAndMalformedMessagesAnswered : Obligations.ReservedAndMalformedMessagesAnswered := by
  intro s m ms hf hs hi
  refine ⟨fun hop => ?_, fun o zeros ho hl hz => ?_⟩
  · exact step_of_malformed hf hs hi (decodeMessage_of_reserved (ofCode?_of_reserved hop))
  · rw [eq_zeroResult_of_mem (by decide) hz]
    exact step_of_malformed hf hs hi (decodeMessage_of_badLength ho hl)

/-! ## Answers -/

/-- R104: `t` has one response more than `s`, with the status `st`, and the same command in progress. -/
def Answered (st : Status) (s t : State) : Prop :=
  t.sender = s.sender ∧ ∃ r, t.hostOut = s.hostOut ++ [st.code :: r]

theorem respond_answered (st : Status) (r : List Byte) (s : State) : Answered st s (respond st r s) := ⟨rfl, r, rfl⟩

/-- R282: a rejected operand is answered `INVALID_ARG`. -/
theorem rejectArg_answered (o : Op) (v : Byte) (s : State) : Answered .invalidArg s (rejectArg o v s) := ⟨rfl, _, rfl⟩

/-- R104: the status of the last response, from its first byte. -/
theorem Answered.head?_eq {st : Status} {s t : State} {r : List Byte} (h : Answered st s t)
    (hr : t.hostOut = s.hostOut ++ [r]) : r.head? = some st.code := by
  obtain ⟨-, r', hr'⟩ := h
  obtain rfl : st.code :: r' = r := by simpa using hr'.symm.trans hr
  rfl

/-- R104: the status codes of `OK`, `INVALID_ARG` and `EMPTY`, which the commands outside the gate answer with. -/
def UngatedStatus (st : Status) : Prop := st = .ok ∨ st = .invalidArg ∨ st = .empty

theorem UngatedStatus.code_ne {st : Status} (h : UngatedStatus st) : st.code ≠ 0x03#8 := by
  rcases h with rfl | rfl | rfl <;> decide

/-- R105: a command outside the gate answers at once, `OK`, `INVALID_ARG` or `EMPTY`. -/
theorem exec_answered_of_ungated {i : Instr} {o : Op} {s t : State} (ho : Instr.op? i = some o) (hg : o ∉ gatedOps)
    (h : exec i s = .next t) : ∃ st, UngatedStatus st ∧ Answered st s t := by
  cases i with
  | irqService => cases ho
  | setChannel _ | setRxAddr _ _ _ | setTxAddr _ _ | enablePipes _ | disablePipes _ | writePayload _ | resetToRx | dataReady
  | routeStep _ =>
    cases ho
    exact absurd (by decide) hg
  | init =>
    rw [exec_init_eq, initSequence_eq] at h
    cases h
    exact ⟨.ok, .inl rfl, rfl, [], rfl⟩
  | pipeCount pipe =>
    cases h
    split
    · exact ⟨_, .inr (.inl rfl), rejectArg_answered _ _ _⟩
    · exact ⟨_, .inl rfl, respond_answered _ _ _⟩
  | pipeRead pipe =>
    cases h
    split
    · exact ⟨_, .inr (.inl rfl), rejectArg_answered _ _ _⟩
    · next p _ =>
      cases hq : s.q.get p <;> simp only [queuePop, hq]
      · exact ⟨.empty, .inr (.inr rfl), rfl, _, rfl⟩
      · exact ⟨.ok, .inl rfl, rfl, _, rfl⟩
  | encodeFrame data =>
    cases h
    split
    · exact ⟨_, .inr (.inl rfl), rejectArg_answered _ _ _⟩
    · exact ⟨_, .inl rfl, respond_answered _ _ _⟩
  | getCksumErr | getResetCnt | getMode | checksum data | decodeFrame frame =>
    cases h
    exact ⟨_, .inl rfl, respond_answered _ _ _⟩

/-! ## The gate -/

/-- R105: in Standby a gated command is refused, whatever its operands. -/
theorem exec_gated_of_standby {i : Instr} {o : Op} {s : State} (ho : Instr.op? i = some o) (hg : o ∈ gatedOps)
    (hm : s.mode = .standby) : exec i s = .next (respond .notInit (zeroResult o) (raiseCond .notInit s)) := by
  cases i with
  | irqService => cases ho
  | setChannel _ | setRxAddr _ _ _ | setTxAddr _ _ | enablePipes _ | disablePipes _ | writePayload _ | resetToRx | dataReady
  | routeStep _ =>
    cases ho
    exact congrArg Host.Outcome.next (gate_closed _ _ s hm)
  | init | pipeCount _ | pipeRead _ | getCksumErr | getResetCnt | getMode | checksum _ | encodeFrame _ | decodeFrame _ =>
    cases ho
    exact absurd hg (by decide)

/-- R210: a service responds nothing and leaves the command in progress alone. -/
theorem exec_irqService_silent {s t : State} (h : exec .irqService s = .next t) :
    t.hostOut = s.hostOut ∧ t.sender = s.sender := by
  rcases exec_irqService_cases s with ⟨-, tr, hx⟩ | ⟨-, p, tr, q, n, hx⟩ | ⟨-, p, tr, hx⟩ | ⟨-, tr, cs, -, hx⟩ <;>
    cases hx.symm.trans h <;> exact ⟨rfl, rfl⟩

/-- R101: IRQ_SERVICE alone is no host command. -/
theorem eq_irqService_of_op?_eq_none {i : Instr} (h : Instr.op? i = none) : i = .irqService := by
  cases i with
  | irqService => rfl
  | _ => cases h

/-- Settles O6: the closed gate; the statuses of the other commands; the service, which responds nothing. -/
theorem gateRefusesInStandby : Obligations.GateRefusesInStandby := by
  intro s i
  refine ⟨fun o zeros ho hm hz => ?_, fun hung t r h hr => ?_⟩
  · have hg : o ∈ gatedOps := List.mem_map_of_mem (f := Prod.fst) hz
    rw [eq_zeroResult_of_mem (by decide) hz]
    exact exec_gated_of_standby ho hg hm
  · cases ho : Instr.op? i with
    | some o =>
      obtain ⟨st, hst, ha⟩ := exec_answered_of_ungated ho (hung o ho) h
      rw [ha.head?_eq hr]
      exact fun he => hst.code_ne (Option.some.inj he)
    | none =>
      obtain rfl := eq_irqService_of_op?_eq_none ho
      rw [(exec_irqService_silent h).1] at hr
      exact absurd hr (by simp)

end Sys2Proof.Machine

/-! SUPPORT. One response for each message (30_encoding R100, 20_memory R78). -/

namespace Sys2Proof.Machine

/-! ## A command responds or waits -/

/-- R78, R100: the command begun or continued in `s` has responded in `t`, with nothing left in progress, or waits in `t` and has
not responded yet. -/
def RespondedOrWaits (s t : State) : Prop :=
  (t.sender = none ∧ ∃ r, t.hostOut = s.hostOut ++ [r]) ∨ (∃ snd, t.sender = some snd) ∧ t.hostOut = s.hostOut

/-- R100: responses and command in progress together are one more than the responses before. -/
theorem RespondedOrWaits.count {s t : State} (h : RespondedOrWaits s t) :
    t.hostOut.length + inProgress t = s.hostOut.length + 1 := by
  rcases h with ⟨hs, r, ho⟩ | ⟨⟨snd, hs⟩, ho⟩ <;> simp [inProgress, hs, ho]

theorem RespondedOrWaits.hostOut_prefix {s t : State} (h : RespondedOrWaits s t) : s.hostOut <+: t.hostOut := by
  rcases h with ⟨-, r, ho⟩ | ⟨-, ho⟩ <;> rw [ho]
  exact List.prefix_append _ _

/-- What comes before the response of a command may change anything but the responses. -/
theorem RespondedOrWaits.of_hostOut_eq {s b t : State} (h : RespondedOrWaits b t) (hb : b.hostOut = s.hostOut) :
    RespondedOrWaits s t := by
  unfold RespondedOrWaits at h ⊢
  rwa [hb] at h

theorem Answered.respondedOrWaits {st : Status} {s t : State} (h : Answered st s t) (hs : s.sender = none) :
    RespondedOrWaits s t := by
  obtain ⟨hsnd, r, hr⟩ := h
  exact .inl ⟨hsnd.trans hs, _, hr⟩

/-- R105: a closed gate responds. -/
theorem gate_respondedOrWaits (o : Op) {body : State → State} {s : State} (hs : s.sender = none)
    (h : RespondedOrWaits s (body s)) : RespondedOrWaits s (gate o body s) := by
  by_cases hm : s.mode = .standby
  · rw [gate_closed o body s hm]
    exact .inl ⟨hs, _, rfl⟩
  · rwa [gate_open o body s hm]

/-! ## The sender and the router -/

/-- R181 to R184: the sender's loop waits, or ends with one response. -/
theorem senderLoop_respondedOrWaits (snd : Sender) (s : State) : RespondedOrWaits s (senderLoop snd s) := by
  rcases senderLoop_outcome snd s with ⟨snd', hs, ho, -⟩ | ⟨r, hs, ho, -⟩
  · exact .inr ⟨⟨snd', hs⟩, ho⟩
  · exact .inl ⟨hs, r, ho⟩

theorem sendBytes_respondedOrWaits (reply : SendReply) (data : List Byte) (s : State) :
    RespondedOrWaits s (sendBytes reply data s) :=
  (senderLoop_respondedOrWaits _ (clockSampled s)).of_hostOut_eq rfl

theorem routePacket_respondedOrWaits (h : Header) (data : List Byte) {s : State} (hs : s.sender = none) :
    RespondedOrWaits s (routePacket h data s) := by
  rcases routePacket_cases h data s with ⟨cs, ds, a, -, e⟩ | ⟨reply, addr, e⟩ <;> rw [e]
  · exact .inl ⟨hs, _, rfl⟩
  · exact (sendBytes_respondedOrWaits reply _ _).of_hostOut_eq rfl

theorem dataPhase_respondedOrWaits (p : Pipe) {s : State} (hs : s.sender = none) : RespondedOrWaits s (dataPhase p s) := by
  rcases dataPhase_cases p s with ⟨-, e⟩ | ⟨-, e⟩ <;> rw [e]
  · exact .inl ⟨hs, _, rfl⟩
  · exact .of_hostOut_eq (routePacket_respondedOrWaits _ _ hs) rfl

/-- R240: a ROUTE_STEP on a pipe answers at once, or forwards its packet and may wait. -/
theorem routePipe_respondedOrWaits (p : Pipe) {s : State} (hs : s.sender = none) : RespondedOrWaits s (routePipe p s) := by
  rcases routePipe_cases p s with ⟨-, e⟩ | ⟨-, -, e⟩ | ⟨-, -, e⟩ <;> rw [e]
  · exact .inl ⟨hs, _, rfl⟩
  · exact dataPhase_respondedOrWaits p hs
  · rcases headerPhase_cases p s with ⟨-, e⟩ | ⟨h, -, -, -, e⟩ | ⟨h, -, -, -, e⟩ <;> rw [e]
    · exact .inl ⟨hs, _, rfl⟩
    · exact .inl ⟨hs, _, rfl⟩
    · exact .of_hostOut_eq (dataPhase_respondedOrWaits p hs) rfl

/-! ## The commands -/

/-- R216: DATA_READY answers at once, also when the watchdog fires. -/
theorem dataReadyBody_answered (s : State) : Answered .ok s (dataReadyBody s) := by
  unfold dataReadyBody
  split
  · split
    · rw [watchdogFires_eq]
      exact ⟨rfl, _, rfl⟩
    · exact ⟨rfl, _, rfl⟩
  · exact ⟨rfl, _, rfl⟩

/-- R134: SET_RX_ADDR past its operand check. -/
theorem respond_writeRxAddr_answered (p : Pipe) (hi32 : Hi32) (lo8 : Byte) (s : State) :
    Answered .ok s (respond .ok [] (writeRxAddr p hi32 lo8 s)) := by
  cases p <;> exact ⟨rfl, _, rfl⟩

/-- R78, R100: every host command responds once or waits. -/
theorem exec_respondedOrWaits {i : Instr} {s t : State} (hirq : i ≠ .irqService) (hs : s.sender = none)
    (h : exec i s = .next t) : RespondedOrWaits s t := by
  cases i with
  | irqService => exact absurd rfl hirq
  | setChannel ch =>
    cases h
    refine gate_respondedOrWaits _ hs ?_
    unfold setChannelBody
    split
    · exact .inl ⟨hs, _, rfl⟩
    · exact (rejectArg_answered _ _ _).respondedOrWaits hs
  | setRxAddr pipe hi32 lo8 =>
    cases h
    refine gate_respondedOrWaits _ hs ?_
    unfold setRxAddrBody
    split
    · exact (rejectArg_answered _ _ _).respondedOrWaits hs
    · exact (respond_writeRxAddr_answered _ _ _ _).respondedOrWaits hs
  | setTxAddr hi32 lo8 =>
    cases h
    exact gate_respondedOrWaits _ hs (.inl ⟨hs, _, rfl⟩)
  | enablePipes mask =>
    cases h
    refine gate_respondedOrWaits _ hs ?_
    unfold enablePipesBody
    split
    · exact .inl ⟨hs, _, rfl⟩
    · exact (rejectArg_answered _ _ _).respondedOrWaits hs
  | disablePipes mask =>
    cases h
    refine gate_respondedOrWaits _ hs ?_
    unfold disablePipesBody
    split
    · exact .inl ⟨hs, _, rfl⟩
    · exact (rejectArg_answered _ _ _).respondedOrWaits hs
  | writePayload data =>
    cases h
    exact gate_respondedOrWaits _ hs (sendBytes_respondedOrWaits .write data s)
  | resetToRx =>
    cases h
    refine gate_respondedOrWaits _ hs ?_
    rw [resetToReceive_eq]
    exact .inl ⟨hs, _, rfl⟩
  | dataReady =>
    cases h
    exact gate_respondedOrWaits _ hs ((dataReadyBody_answered s).respondedOrWaits hs)
  | routeStep pipe =>
    cases h
    refine gate_respondedOrWaits _ hs ?_
    unfold routeStepBody
    split
    · exact (rejectArg_answered _ _ _).respondedOrWaits hs
    · exact routePipe_respondedOrWaits _ hs
  | init | pipeCount _ | pipeRead _ | getCksumErr | getResetCnt | getMode | checksum _ | encodeFrame _ | decodeFrame _ =>
    obtain ⟨st, -, ha⟩ := exec_answered_of_ungated rfl (by decide) h
    exact ha.respondedOrWaits hs

/-- R106: a message that is no command is answered at once. -/
theorem answerMalformed_answered (e : DecodeError) (s : State) : ∃ st, Answered st s (answerMalformed e s) := by
  cases e <;> exact ⟨_, rfl, _, rfl⟩

/-! ## The steps -/

/-- R78, R100: a foreground step rests, with no command in progress and no message, or responds or leaves a command waiting. -/
theorem foregroundStep_respondedOrWaits {s t : State} (h : foregroundStep s = .next t) :
    (s.sender = none ∧ s.hostIn = [] ∧ t = s) ∨ ((s.sender = none → s.hostIn ≠ []) ∧ RespondedOrWaits s t) := by
  rcases foregroundStep_cases s with ⟨snd, hs, e⟩ | ⟨hs, hi, e⟩ | ⟨m, ms, i, hs, hi, hd, e⟩ | ⟨m, ms, err, hs, hi, -, e⟩
  · cases e.symm.trans h
    exact .inr ⟨fun hn => absurd (hs.symm.trans hn) nofun, senderLoop_respondedOrWaits snd s⟩
  · cases e.symm.trans h
    exact .inl ⟨hs, hi, rfl⟩
  · have hr := exec_respondedOrWaits (s := { s with hostIn := ms }) (decodeMessage_ne_irqService hd) hs (e.symm.trans h)
    exact .inr ⟨fun _ => by simp [hi], hr.of_hostOut_eq rfl⟩
  · cases e.symm.trans h
    obtain ⟨st, ha⟩ := answerMalformed_answered err { s with hostIn := ms }
    exact .inr ⟨fun _ => by simp [hi], (ha.respondedOrWaits hs).of_hostOut_eq rfl⟩

/-- R100: one message taken adds one to responses and command in progress. -/
theorem foregroundStep_count {s t : State} (h : foregroundStep s = .next t) :
    t.hostOut.length + inProgress t =
      s.hostOut.length + inProgress s + (if s.sender.isNone && !s.hostIn.isEmpty then 1 else 0) := by
  rcases foregroundStep_respondedOrWaits h with ⟨hs, hi, rfl⟩ | ⟨hi, hr⟩
  · simp [hs, hi]
  · rw [hr.count]
    cases hs : s.sender with
    | some snd => simp [inProgress, hs]
    | none => simp [inProgress, hs, hi hs]

theorem foregroundStep_hostOut_prefix {s t : State} (h : foregroundStep s = .next t) : s.hostOut <+: t.hostOut := by
  rcases foregroundStep_respondedOrWaits h with ⟨-, -, rfl⟩ | ⟨-, hr⟩
  · exact List.prefix_refl _
  · exact hr.hostOut_prefix

/-- R100: no agent but the foreground responds. -/
theorem step_silent {s t : State} (h : step s = .next t) (hr : ¬ ResetNext s) (hf : ¬ ForegroundNext s) :
    t.hostOut = s.hostOut ∧ t.sender = s.sender := by
  rcases step_cases h hr with ⟨hf', -⟩ | ⟨-, -, -, hx⟩ | ⟨-, hx⟩
  · exact absurd hf' hf
  · exact exec_irqService_silent (s := moved s) hx
  · exact ⟨(congrArg State.hostOut hx :), (congrArg State.sender hx :)⟩

/-- Settles O7: the foreground's step is counted, every other step is silent. -/
theorem everyMessageGetsOneResponse : Obligations.EveryMessageGetsOneResponse := by
  intro s t h hr
  by_cases hf : ForegroundNext s
  · have hx : foregroundStep (moved s) = .next t := (step_of_foreground s hf).symm.trans h
    exact ⟨fun _ => foregroundStep_count (s := moved s) hx, absurd hf, foregroundStep_hostOut_prefix (s := moved s) hx⟩
  · have hsilent := step_silent h hr hf
    exact ⟨fun hf' => absurd hf' hf, fun _ => hsilent, by rw [hsilent.1]⟩

end Sys2Proof.Machine

/-! SUPPORT. The radio port byte by byte (30_encoding R97, R113 to R116). -/

namespace Sys2Proof.Machine

/-- R113: the command byte that writes a pipe's payload width. -/
theorem writeRegCommand_rxPw (pipe : Pipe) : writeRegCommand (.rxPw pipe) = BitVec.ofNat 8 (0x31 + pipe.num) := by
  cases pipe <;> rfl

/-- R113: the command byte that writes a pipe's receive address. -/
theorem writeRegCommand_rxAddr (pipe : Pipe) : writeRegCommand (.rxAddr pipe) = BitVec.ofNat 8 (0x2A + pipe.num) := by
  cases pipe <;> rfl

theorem busBytes_writeReg (p : Params) (r : RadioReg) (bytes : List Byte) :
    RadioOp.busBytes p (.writeReg r bytes) = writeRegCommand r :: bytes := rfl

/-- R97: a status byte with the fields of a record, its ignored bits clear. -/
def StatusRec.toByte (r : StatusRec) : Byte := flagsByte r.rxDr r.txDs r.maxRt ||| r.rxPNo.setWidth 8 <<< 1

/-- R97: the record of that byte. -/
theorem StatusRec.ofByte_toByte (r : StatusRec) : StatusRec.ofByte r.toByte = r := by
  obtain ⟨rxDr, txDs, maxRt, rxPNo⟩ := r
  revert rxDr txDs maxRt rxPNo
  decide

/-- Settles O15: each transaction's bytes by evaluation, the pipes' registers by their command bytes, the records by
`StatusRec.toByte`. -/
theorem radioTransactionsAsBusBytes : Obligations.RadioTransactionsAsBusBytes := by
  intro p ch m lo8 hi32 f pipe
  have hpw := writeRegCommand_rxPw pipe
  have haddr := writeRegCommand_rxAddr pipe
  refine ⟨rfl, rfl, ?_, rfl, rfl, rfl, rfl, rfl, ⟨_, ?_, rfl⟩, rfl, rfl, rfl, fun _ => ?_, rfl, ?_, fun _ => rfl,
    fun r => ⟨r.toByte, r.ofByte_toByte⟩⟩
  · rw [busBytes_writeReg, hpw]
  · rw [List.length_map, List.length_range]
  · rw [busBytes_writeReg, haddr]
  · rw [busBytes_writeReg, haddr, addr5]

end Sys2Proof.Machine

/-! SUPPORT. The Radio Mode Controller's commands (40_mode_control R130 to R141). -/

namespace Sys2Proof.Machine

/-! ## The operand checks -/

theorem channelLegal_iff (ch : Byte) : channelLegal ch = true ↔ ch.toNat ≤ 125 := decide_eq_true_iff

theorem maskLegal_iff (mask : Byte) : maskLegal mask = true ↔ mask.toNat ≤ 0x3F := decide_eq_true_iff

/-- R98, R132: a legal channel loses nothing in the seven bits of its shadow. -/
theorem setWidth_setWidth_of_channel {ch : Byte} (h : ch.toNat ≤ 125) : (ch.setWidth 7).setWidth 8 = ch := by
  apply BitVec.eq_of_toNat_eq
  rw [BitVec.toNat_setWidth, BitVec.toNat_setWidth]
  omega

/-- R139: AND-NOT within six bits. -/
theorem maskMax_xor (m : BitVec 6) : 0x3F#6 ^^^ m = ~~~m := BitVec.allOnes_xor

/-! ## The gate's two answers -/

/-- R105: the refusal of a gated command that has no result, written out. -/
theorem exec_refused {i : Instr} {o : Op} {s : State} (ho : Instr.op? i = some o) (hg : o ∈ gatedOps)
    (hz : zeroResult o = []) (hm : s.mode = .standby) :
    exec i s = .next { s with conditions := s.conditions ++ [.notInit], hostOut := s.hostOut ++ [[0x03#8]] } := by
  rw [exec_gated_of_standby ho hg hm, hz]
  rfl

section
variable {s : State} (hs : s.mode ≠ .standby)
include hs

theorem exec_setChannel_of_active (ch : Byte) : exec (.setChannel ch) s = .next (setChannelBody ch s) :=
  congrArg Host.Outcome.next (gate_open _ _ s hs)

theorem exec_setRxAddr_of_active (pipe : Byte) (hi32 : Hi32) (lo8 : Byte) :
    exec (.setRxAddr pipe hi32 lo8) s = .next (setRxAddrBody pipe hi32 lo8 s) :=
  congrArg Host.Outcome.next (gate_open _ _ s hs)

theorem exec_setTxAddr_of_active (hi32 : Hi32) (lo8 : Byte) :
    exec (.setTxAddr hi32 lo8) s = .next (respond .ok [] (writeTxAddr hi32 lo8 s)) :=
  congrArg Host.Outcome.next (gate_open _ _ s hs)

theorem exec_enablePipes_of_active (mask : Byte) : exec (.enablePipes mask) s = .next (enablePipesBody mask s) :=
  congrArg Host.Outcome.next (gate_open _ _ s hs)

theorem exec_disablePipes_of_active (mask : Byte) : exec (.disablePipes mask) s = .next (disablePipesBody mask s) :=
  congrArg Host.Outcome.next (gate_open _ _ s hs)

/-- R134: SET_RX_ADDR on a legal pipe. -/
theorem exec_setRxAddr_of_pipe {pipe : Byte} {p : Pipe} (hp : pipe.toNat = p.num) (hi32 : Hi32) (lo8 : Byte) :
    exec (.setRxAddr pipe hi32 lo8) s = .next (respond .ok [] (writeRxAddr p hi32 lo8 s)) := by
  rw [exec_setRxAddr_of_active hs, setRxAddrBody, (Pipe.ofByte?_eq_some pipe p).2 hp]

/-- R138, R139: both mask commands reject a mask of more than six bits. -/
theorem exec_pipeMask_of_lt {mask : Byte} (h : 0x3F < mask.toNat) {i : Instr}
    (hi : i = .enablePipes mask ∨ i = .disablePipes mask) :
    exec i s = .next { s with
      conditions := s.conditions ++ [.invalidConfig (some mask)], hostOut := s.hostOut ++ [[0x01#8]] } := by
  have hm : ¬ maskLegal mask = true := fun hc => Nat.not_le.2 h ((maskLegal_iff mask).1 hc)
  rcases hi with rfl | rfl
  · rw [exec_enablePipes_of_active hs, enablePipesBody, if_neg hm]
    rfl
  · rw [exec_disablePipes_of_active hs, disablePipesBody, if_neg hm]
    rfl

end

/-- R134: from pipe 2 on the low byte alone is written. -/
theorem writeRxAddr_of_two_le {p : Pipe} (h : 2 ≤ p.num) (hi32 : Hi32) (lo8 : Byte) (s : State) :
    writeRxAddr p hi32 lo8 s =
      { s with cfgRxLo := s.cfgRxLo.set p lo8, radioTrace := s.radioTrace ++ [.writeReg (.rxAddr p) [lo8]] } := by
  cases p with
  | p0 | p1 => exact absurd h (by decide)
  | p2 | p3 | p4 | p5 => rfl

/-! ## The commands -/

/-- Settles O8: the sequence of `initSequence_eq`, then the response. -/
theorem initBringsTheRadioUp : Obligations.InitBringsTheRadioUp := by
  intro s
  refine ⟨decodeMessage_encode (i := .init) rfl nofun, ?_⟩
  rw [exec_init_eq, initSequence_eq]
  rfl

/-- Settles O9: the gate, then the range check; the register takes the whole byte of a legal channel. -/
theorem setChannelResult : Obligations.SetChannelResult := by
  intro s ch
  refine ⟨decodeMessage_encode (i := .setChannel ch) rfl nofun, exec_refused rfl (by decide) rfl, fun hs h => ?_,
    fun hs h => ?_⟩
  · have hc : ¬ channelLegal ch = true := fun hc => Nat.not_le.2 h ((channelLegal_iff ch).1 hc)
    rw [exec_setChannel_of_active hs, setChannelBody, if_neg hc]
    rfl
  · rw [exec_setChannel_of_active hs, setChannelBody, if_pos ((channelLegal_iff ch).2 h), writeChannel,
      setWidth_setWidth_of_channel h]
    rfl

/-- Settles O10: the gate, the pipe check, then the pipes that have upper bytes of their own and those that share them. -/
theorem setRxAddrResult : Obligations.SetRxAddrResult := by
  intro s pipe hi32 lo8
  refine ⟨decodeMessage_encode (i := .setRxAddr pipe hi32 lo8) rfl nofun, exec_refused rfl (by decide) rfl,
    fun hs h => ?_, fun hs h => ?_, fun hs h => ?_, fun p hs hp h => ?_⟩
  · rw [exec_setRxAddr_of_active hs, setRxAddrBody, (Pipe.ofByte?_eq_none pipe).2 h]
    rfl
  · exact exec_setRxAddr_of_pipe (p := .p0) hs (congrArg BitVec.toNat h) hi32 lo8
  · exact exec_setRxAddr_of_pipe (p := .p1) hs (congrArg BitVec.toNat h) hi32 lo8
  · rw [exec_setRxAddr_of_pipe hs hp, writeRxAddr_of_two_le h]
    rfl

/-- Settles O12: behind the gate nothing is checked. -/
theorem setTxAddrResult : Obligations.SetTxAddrResult := fun _ hi32 lo8 =>
  ⟨decodeMessage_encode (i := .setTxAddr hi32 lo8) rfl nofun, exec_refused rfl (by decide) rfl,
    fun hs => exec_setTxAddr_of_active hs hi32 lo8⟩

/-- Settles O13: what refuses both commands, then each write of the shadow. -/
theorem pipeMaskResults : Obligations.PipeMaskResults := by
  intro s mask
  refine ⟨decodeMessage_encode (i := .enablePipes mask) rfl nofun,
    decodeMessage_encode (i := .disablePipes mask) rfl nofun,
    fun i hi => ⟨fun hm => ?_, fun hs h => exec_pipeMask_of_lt hs h hi⟩, fun hs h => ⟨?_, ?_⟩⟩
  · rcases hi with rfl | rfl
    · exact exec_refused rfl (by decide) rfl hm
    · exact exec_refused rfl (by decide) rfl hm
  · rw [exec_enablePipes_of_active hs, enablePipesBody, if_pos ((maskLegal_iff mask).2 h)]
    rfl
  · rw [exec_disablePipes_of_active hs, disablePipesBody, if_pos ((maskLegal_iff mask).2 h), maskMax_xor]
    rfl

/-- R141: GET_MODE answers the mode's code, in any mode. -/
theorem exec_getMode_of_mode {s : State} {m : Mode} (h : s.mode = m) :
    exec .getMode s = .next { s with hostOut := s.hostOut ++ [[0x00#8, m.code]] } := by
  subst h
  rfl

/-- Settles O14: the response holds the code of the mode. -/
theorem getModeResult : Obligations.GetModeResult := fun _ =>
  ⟨decodeMessage_encode (i := .getMode) rfl nofun, exec_getMode_of_mode, exec_getMode_of_mode, exec_getMode_of_mode⟩

end Sys2Proof.Machine

/-! SUPPORT. The framing codec's checksum and frames byte by byte (41_framing_codec R160 to R169). -/

namespace Sys2Proof.Machine

/-! ## The checksum -/

/-- R160: complementing a byte takes it from 255. -/
theorem checksumOf_toNat (data : List Byte) :
    (checksumOf data).toNat = 255 - (data.length + (data.map BitVec.toNat).sum) % 256 := by
  simp [checksumOf, BitVec.toNat_not]

/-- R168: changing one byte moves the sum by the difference of the two bytes. -/
theorem sum_toNat_set {data : List Byte} {i : Nat} (hi : i < data.length) (v : Byte) :
    ((data.set i v).map BitVec.toNat).sum + data[i].toNat = (data.map BitVec.toNat).sum + v.toNat := by
  have hset (w : Byte) : ((data.set i w).map BitVec.toNat).sum =
      ((data.map BitVec.toNat).take i).sum + w.toNat + ((data.map BitVec.toNat).drop (i + 1)).sum := by
    rw [List.map_set, List.sum_set, if_pos (by simpa only [List.length_map] using hi)]
  have hold := hset data[i]
  rw [List.set_getElem_self] at hold
  have hnew := hset v
  omega

/-- R168: that difference is never 0 modulo 256, so the checksum tells one changed byte. -/
theorem checksumOf_set_ne {data : List Byte} {i : Nat} (hi : i < data.length) {v : Byte} (hv : v ≠ data[i]) :
    checksumOf (data.set i v) ≠ checksumOf data := by
  intro h
  have hmod := congrArg BitVec.toNat h
  rw [checksumOf_toNat, checksumOf_toNat, List.length_set] at hmod
  have hsum := sum_toNat_set hi v
  have hold := data[i].isLt
  have hnew := v.isLt
  exact hv (BitVec.eq_of_toNat_eq (by omega))

/-! ## Frames -/

/-- R161: a frame comes of at most 30 bytes, and is `frameOf` of them. -/
theorem encodeFrameOf_eq_some {data f : List Byte} (h : encodeFrameOf data = some f) :
    data.length ≤ 30 ∧ frameOf data = f := by
  by_cases hl : data.length ≤ 30
  · rw [encodeFrameOf_of_le data hl] at h
    exact ⟨hl, Option.some.inj h⟩
  · rw [encodeFrameOf_of_gt data (Nat.not_le.1 hl)] at h
    cases h

/-- R161: the payload stands behind the length byte. -/
theorem frameOf_getElem?_payload {data : List Byte} {i : Nat} (h : i < data.length) :
    (frameOf data)[i + 1]? = data[i]? := by
  rw [frameOf, List.getElem?_cons_succ, List.getElem?_append_left h]

/-- R161: the checksum stands behind the payload. -/
theorem frameOf_getElem?_checksum (data : List Byte) : (frameOf data)[data.length + 1]? = some (checksumOf data) := by
  rw [frameOf, List.getElem?_cons_succ, List.getElem?_append_right (Nat.le_refl _), Nat.sub_self, List.getElem?_cons_zero]

/-- R161: zero bytes fill the rest. -/
theorem frameOf_getElem?_filler {data : List Byte} {j : Nat} (h : data.length + 2 ≤ j) (hj : j ≤ 31) :
    (frameOf data)[j]? = some 0#8 := by
  obtain ⟨k, rfl⟩ := Nat.exists_eq_add_of_le h
  rw [frameOf, show data.length + 2 + k = data.length + (k + 1) + 1 by omega, List.getElem?_cons_succ,
    List.getElem?_append_right (Nat.le_add_right _ _), Nat.add_sub_cancel_left, List.getElem?_cons_succ]
  exact List.getElem?_replicate_of_lt (by simp only [Config.maxData]; omega)

/-- R162: decoding a length byte, as many payload bytes, a stored checksum and any filler. -/
theorem decodeFrameOf_cons {n : Nat} (payload : List Byte) (c : Byte) (filler : List Byte) (hn : payload.length = n)
    (h : n ≤ 30) :
    decodeFrameOf (BitVec.ofNat 8 n :: (payload ++ c :: filler)) =
      ⟨BitVec.ofNat 8 n, payload, decide (c = checksumOf payload)⟩ := by
  subst hn
  have hN : (BitVec.ofNat 8 payload.length).toNat = payload.length := by
    rw [BitVec.toNat_ofNat]; exact Nat.mod_eq_of_lt (by omega)
  rw [decodeFrameOf_of_le _ (by simpa only [List.getD_cons_zero, hN] using h)]
  simp [hN]

/-- R167: the codec's round trip. -/
theorem decodeFrameOf_frameOf {data : List Byte} (h : data.length ≤ 30) :
    decodeFrameOf (frameOf data) = ⟨BitVec.ofNat 8 data.length, data, true⟩ := by
  rw [frameOf, decodeFrameOf_cons data _ _ rfl h, decide_eq_true rfl]

/-- R168: any other value of a payload byte makes the frame invalid, the stored checksum being that of the old payload. -/
theorem decodeFrameOf_set_payload_invalid {data : List Byte} {i : Nat} (h : data.length ≤ 30) (hi : i < data.length)
    {v : Byte} (hv : v ≠ data[i]) : (decodeFrameOf ((frameOf data).set (i + 1) v)).valid = false := by
  rw [frameOf, List.set_cons_succ, List.set_append_left _ _ hi, decodeFrameOf_cons _ _ _ List.length_set h]
  exact decide_eq_false (checksumOf_set_ne hi hv).symm

/-- R168: any other value of the checksum byte makes the frame invalid, the payload being the old one. -/
theorem decodeFrameOf_set_checksum_invalid {data : List Byte} (h : data.length ≤ 30) {v : Byte} (hv : v ≠ checksumOf data) :
    (decodeFrameOf ((frameOf data).set (data.length + 1) v)).valid = false := by
  rw [frameOf, List.set_cons_succ, List.set_append_right _ _ (Nat.le_refl _), Nat.sub_self, List.set_cons_zero,
    decodeFrameOf_cons data v _ rfl h]
  exact decide_eq_false hv

/-- A byte with one bit flipped is another byte. -/
theorem xor_bit_ne (b : Byte) {k : Nat} (h : k < 8) : b ^^^ (1#8 <<< k) ≠ b := by
  intro he
  have hbit := congrArg (BitVec.getLsbD · k) he
  simp [h] at hbit

/-! ## The commands -/

/-- R163: the checksum is the response. -/
theorem exec_checksum_eq (data : List Byte) (s : State) :
    exec (.checksum data) s = .next (respond .ok [checksumOf data] s) := rfl

/-- R164: no frame, so the length is rejected as an operand. -/
theorem exec_encodeFrame_of_gt {data : List Byte} (h : 30 < data.length) (s : State) :
    exec (.encodeFrame data) s = .next (rejectArg .encodeFrame (BitVec.ofNat 8 data.length) s) := by
  simp only [exec, execEncodeFrame, encodeFrameOf_of_gt data h]

/-- R164: the frame is the response. -/
theorem exec_encodeFrame_of_le {data : List Byte} (h : data.length ≤ 30) (s : State) :
    exec (.encodeFrame data) s = .next (respond .ok (frameOf data) s) := by
  simp only [exec, execEncodeFrame, encodeFrameOf_of_le data h]

/-- R165: what decoding gives is the response. -/
theorem exec_decodeFrame_of_eq {f : List Byte} {d : Decoded} (h : decodeFrameOf f = d) (s : State) :
    exec (.decodeFrame f) s = .next (respond .ok ((if d.valid then 1#8 else 0#8) :: d.n :: d.payload) s) := by
  subst h
  rfl

/-- Settles O17: the message, the rejection above 30 bytes, and the four parts of the frame. -/
theorem encodeFrameResult : Obligations.EncodeFrameResult := by
  intro s data hl
  refine ⟨decodeMessage_encode (i := .encodeFrame data) (decide_eq_true hl) nofun, fun h => ?_, fun h => ?_⟩
  · exact ⟨encodeFrameOf_of_gt data h, exec_encodeFrame_of_gt h s⟩
  · exact ⟨frameOf data, encodeFrameOf_of_le data h, exec_encodeFrame_of_le h s, frameOf_length data h, rfl,
      fun _ => frameOf_getElem?_payload, frameOf_getElem?_checksum data, fun _ => frameOf_getElem?_filler⟩

/-- Settles O19: the frame is `frameOf data`, which decodes to what it was made of. -/
theorem frameRoundTrip : Obligations.FrameRoundTrip := by
  intro s data f hf
  obtain ⟨hl, rfl⟩ := encodeFrameOf_eq_some hf
  exact ⟨decodeFrameOf_frameOf hl, exec_decodeFrame_of_eq (decodeFrameOf_frameOf hl) s⟩

/-- Settles O20: byte j is a payload byte or the checksum byte. The counterexample for the length byte is C3's `01 FF FF`, which a
flip of bit 0 makes the frame of no bytes. -/
theorem payloadBitFlipIsDetected : Obligations.PayloadBitFlipIsDetected := by
  refine ⟨fun data f j k hf hj hjl hk => ?_, [0xFF#8], _, rfl, by decide⟩
  obtain ⟨hl, rfl⟩ := encodeFrameOf_eq_some hf
  obtain ⟨i, rfl⟩ := Nat.exists_eq_add_of_le' hj
  have hflip := xor_bit_ne ((frameOf data).getD (i + 1) 0#8) hk
  rcases Nat.lt_or_eq_of_le (Nat.le_of_succ_le_succ hjl) with hi | rfl
  · have hbyte : (frameOf data).getD (i + 1) 0#8 = data[i] := by
      rw [List.getD_eq_getElem?_getD, frameOf_getElem?_payload hi, List.getElem?_eq_getElem hi, Option.getD_some]
    exact decodeFrameOf_set_payload_invalid hl hi (hbyte ▸ hflip)
  · have hbyte : (frameOf data).getD (data.length + 1) 0#8 = checksumOf data := by
      rw [List.getD_eq_getElem?_getD, frameOf_getElem?_checksum, Option.getD_some]
    exact decodeFrameOf_set_checksum_invalid hl (hbyte ▸ hflip)

/-- Settles O16: the message, the byte as arithmetic, the response. -/
theorem checksumResult : Obligations.ChecksumResult := fun s data hl =>
  ⟨decodeMessage_encode (i := .checksum data) (decide_eq_true hl) nofun, checksumOf_toNat data, exec_checksum_eq data s⟩

/-- Settles O18: the message, then the two cases of the length byte. -/
theorem decodeFrameResult : Obligations.DecodeFrameResult := by
  intro s f hl
  refine ⟨decodeMessage_encode (i := .decodeFrame f) (decide_eq_true hl) nofun, fun n hn => ?_⟩
  obtain rfl : f.getD 0 0#8 = n := by rw [List.getD_eq_getElem?_getD, hn, Option.getD_some]
  refine ⟨fun h => ?_, fun h stored hstored => ?_⟩
  · exact ⟨decodeFrameOf_of_gt f h, exec_decodeFrame_of_eq (decodeFrameOf_of_gt f h) s⟩
  · obtain rfl : f.getD ((f.getD 0 0#8).toNat + 1) 0#8 = stored := by
      rw [List.getD_eq_getElem?_getD, hstored, Option.getD_some]
    refine ⟨decodeFrameOf_of_le f h, ?_⟩
    rw [exec_decodeFrame_of_eq (decodeFrameOf_of_le f h) s]
    simp only [decide_eq_true_eq]
    rfl

end Sys2Proof.Machine

/-! SUPPORT. The chunks of a write (42_outbound_sender R183) and the timeout predicate (R187). -/

namespace Sys2Proof.Machine

/-- R183: the first `n` chunks are the first `30 n` bytes. -/
theorem flatMap_chunk_range (data : List Byte) (n : Nat) : (List.range n).flatMap (chunk data) = data.take (30 * n) := by
  induction n with
  | zero => rfl
  | succ n ih =>
    rw [List.range_succ, List.flatMap_append, ih, List.flatMap_singleton, Nat.mul_succ, List.take_add]
    rfl

/-- R183: a chunk has 30 bytes, or what is left of the data. -/
theorem chunk_length (data : List Byte) (k : Nat) : (chunk data k).length = min 30 (data.length - 30 * k) := by
  rw [chunk, List.length_take, List.length_drop]

/-- R183: a write of some bytes has `ceil_div(L, 30)` frames. -/
theorem frameCount_of_pos {n : Nat} (h : 0 < n) : frameCount n = (n + 29) / 30 := if_neg (Nat.ne_of_gt h)

/-- R183: up to 30 bytes make one frame. -/
theorem frameCount_of_le {n : Nat} (h : n ≤ 30) : frameCount n = 1 := by
  rcases Nat.eq_zero_or_pos n with rfl | hn
  · rfl
  · rw [frameCount_of_pos hn]
    omega

/-- R183: all frames together have room for the data. -/
theorem length_le_frameCount (n : Nat) : n ≤ 30 * frameCount n := by
  rcases Nat.eq_zero_or_pos n with rfl | hn
  · exact Nat.zero_le _
  · rw [frameCount_of_pos hn]
    omega

/-- R183: the only chunk of a short write is its data. -/
theorem chunk_zero_of_le {data : List Byte} (h : data.length ≤ 30) : chunk data 0 = data := List.take_of_length_le h

/-- Settles O27: the chunks together by `flatMap_chunk_range`, the size of each by `chunk_length`. -/
theorem chunksPartitionTheData : Obligations.ChunksPartitionTheData := by
  intro data
  refine ⟨?_, fun k hk => ?_, fun h => by subst h; rfl, fun h => ?_⟩
  · rw [flatMap_chunk_range, List.take_of_length_le (length_le_frameCount _)]
  · have hpos : 0 < data.length := by
      by_contra h0
      rw [frameCount_of_le (by omega)] at hk
      omega
    rw [frameCount_of_pos hpos] at hk
    rw [chunk_length]
    omega
  · have hpos : 0 < data.length := List.length_pos_iff.2 h
    rw [chunk_length, frameCount_of_pos hpos]
    omega

/-- R187: the predicate compares the elapsed time, strictly. -/
theorem expired_iff (p : Params) (n t : Clock) : expired p n t = true ↔ p.txTimeoutMs.toNat < (n - t).toNat :=
  decide_eq_true_iff

/-- Settles O29: the subtraction of 16-bit words, first in general, then for a clock that has moved by `e`. -/
theorem timeoutPredicateWraps : Obligations.TimeoutPredicateWraps := by
  intro p now t
  refine ⟨?_, fun e he hnow => ?_⟩
  · rw [expired_iff, BitVec.toNat_sub]
    have ht := t.isLt
    rw [show 2 ^ 16 - t.toNat + now.toNat = 65536 + now.toNat - t.toNat by omega]
  · have helapsed : now - t = BitVec.ofNat 16 e := by rw [hnow, BitVec.add_comm, BitVec.add_sub_cancel]
    rw [expired_iff, helapsed, BitVec.toNat_ofNat, Nat.mod_eq_of_lt he]

end Sys2Proof.Machine

/-! SUPPORT. A write begun, and RESET_TO_RX (42_outbound_sender R180 to R187). -/

namespace Sys2Proof.Machine

/-- R180: WRITE_PAYLOAD outside Standby. -/
theorem exec_writePayload_of_active (data : List Byte) {s : State} (hs : s.mode ≠ .standby) :
    exec (.writePayload data) s = .next (sendBytes .write data s) :=
  congrArg Host.Outcome.next (gate_open _ _ s hs)

/-- R103: the length byte of at most 255 bytes. -/
theorem toNat_lengthByte {n : Nat} (h : n ≤ 255) : (BitVec.ofNat 8 n).toNat = n := by
  rw [BitVec.toNat_ofNat, Nat.mod_eq_of_lt (by omega)]

/-- R33, R183: the transient of a write that begins at `t`. -/
def Sender.fresh (reply : SendReply) (data : List Byte) (t : Clock) : Sender :=
  { data := data, len := BitVec.ofNat 8 data.length, k := 0, sent := 0#8, tWait := t, reply := reply }

/-- R183: `SendBytes` goes into the loop with that transient. -/
theorem sendBytes_eq_fresh (reply : SendReply) (data : List Byte) (s : State) :
    sendBytes reply data s = senderLoop (.fresh reply data s.now) (clockSampled s) := rfl

/-- R183: more than 30 bytes need a second frame. -/
theorem one_lt_frameCount {n : Nat} (h : 30 < n) : 1 < frameCount n := by
  rw [frameCount_of_pos (by omega)]
  omega

/-- Settles O21: the first frame is the last. -/
theorem writeSendsOneFrame : Obligations.WriteSendsOneFrame := by
  intro s data f hm hf
  obtain ⟨hl, rfl⟩ := encodeFrameOf_eq_some hf
  have hlast : (Sender.fresh .write data s.now).k + 1 = frameCount (Sender.fresh .write data s.now).len.toNat := by
    rw [Sender.fresh, toNat_lengthByte (by omega), frameCount_of_le hl]
  have hidle : (clockSampled s).mode ≠ .transmitting := fun h => nomatch hm.symm.trans h
  rw [exec_writePayload_of_active data (by simp [hm]), sendBytes_eq_fresh, senderLoop_of_last hidle hlast,
    show chunk (Sender.fresh .write data s.now).data (Sender.fresh .write data s.now).k = data from chunk_zero_of_le hl]
  rfl

/-- Settles O22: the first frame is not the last; the wait then begins with the samples 2 and 3. -/
theorem longWriteSendsFirstFrameAndWaits : Obligations.LongWriteSendsFirstFrameAndWaits := by
  intro s data f hm hlong hl hf
  obtain ⟨-, rfl⟩ := encodeFrameOf_eq_some hf
  have hmore : (Sender.fresh .write data s.now).k + 1 < frameCount (Sender.fresh .write data s.now).len.toNat := by
    rw [Sender.fresh, toNat_lengthByte hl]
    exact one_lt_frameCount hlong
  have hidle : (clockSampled s).mode ≠ .transmitting := fun h => nomatch hm.symm.trans h
  rw [exec_writePayload_of_active data (by simp [hm]), sendBytes_eq_fresh]
  refine ⟨fun hle => ?_, fun hlt => ?_⟩
  · rw [senderLoop_of_more_of_le hidle hmore hle]
    rfl
  · rw [senderLoop_of_more_of_lt hidle hmore hlt]
    rfl

/-- Settles O23: the transmission in flight leaves the decision to the clock. -/
theorem writeInTransmittingWaits : Obligations.WriteInTransmittingWaits := by
  intro s data hm hl
  rw [exec_writePayload_of_active data (by simp [hm]), sendBytes_eq_fresh,
    senderLoop_of_transmitting _ (s := clockSampled s) hm]
  refine ⟨fun hle => ?_, fun hlt => ?_⟩
  · rw [senderExpiry_of_le (snd := .fresh .write data s.now) (s := clockSampled s) hle]
    rfl
  · rw [senderExpiry_of_lt (snd := .fresh .write data s.now) (s := clockSampled s) hlt]
    rfl

/-- Settles O28: the gate, then the recovery path as `resetToReceive_eq` gives it. -/
theorem resetToRxResult : Obligations.ResetToRxResult := by
  intro s
  refine ⟨decodeMessage_encode (i := .resetToRx) rfl nofun, exec_refused rfl (by decide) rfl, fun hs => ?_⟩
  rw [exec_resetToRx_of_active hs, resetToReceive_eq]
  rfl

end Sys2Proof.Machine

/-! SUPPORT. A write whose waits all complete (42_outbound_sender R182, R183, R188, 43_inbound_demux R211). -/

namespace Sys2Proof.Machine

/-! ## Runs -/

/-- Two runs, one after the other. -/
theorem Runs.trans {m n : Nat} {s u t : State} (h : Runs m s u) (h' : Runs n u t) : Runs (m + n) s t := by
  induction m generalizing s with
  | zero =>
    cases h
    rwa [Nat.zero_add]
  | succ m ih =>
    obtain ⟨v, hv, hr⟩ := h
    rw [Nat.succ_add]
    exact ⟨v, hv, ih hr⟩

/-- A run of one step. -/
theorem Runs.one {s t : State} (h : step s = .next t) : Runs 1 s t := ⟨t, h, rfl⟩

/-! ## The clock while it stands -/

/-- R355: with no other values to come, sampling the clock changes nothing. -/
theorem clockSampled_of_still {s : State} (h : s.nowNext = []) : clockSampled s = s := by
  unfold clockSampled
  rw [h]
  exact (congrArg (fun l => { s with nowNext := l }) h.symm :)

theorem afterSamples_of_still {s : State} (h : s.nowNext = []) (n : Nat) : afterSamples n s = s := by
  induction n with
  | zero => rfl
  | succ n ih => rw [afterSamples, clockSampled_of_still h, ih]

/-- R187: a clock that stands does not pass the timeout. -/
theorem sample_sub_sample_of_still {s : State} (h : s.nowNext = []) (m n : Nat) :
    (sample m s - sample n s).toNat ≤ s.params.txTimeoutMs.toNat := by
  rw [sample, sample, afterSamples_of_still h, afterSamples_of_still h, BitVec.sub_self]
  exact Nat.zero_le _

/-- R183: `SendBytes` goes into the loop at once. -/
theorem sendBytes_of_still (reply : SendReply) (data : List Byte) {s : State} (h : s.nowNext = []) :
    sendBytes reply data s = senderLoop (.fresh reply data s.now) s := by
  rw [sendBytes_eq_fresh, clockSampled_of_still h]

/-! ## The frames of a trace -/

theorem framesWritten_append (l l' : List RadioOp) : framesWritten (l ++ l') = framesWritten l ++ framesWritten l' :=
  List.filterMap_append

/-! ## The steps of a write whose waits complete -/

/-- R100: the state a command acts on: its move off the agenda and its message off the stream. -/
def commandTaken (rest : List Move) (ms : List Message) (s : State) : State := { s with agenda := rest, hostIn := ms }

/-- R100: the foreground's step with a well-formed command as the oldest message. -/
theorem step_of_command {s : State} {i : Instr} {ms : List Message} {rest : List Move} (ha : s.agenda = .foreground :: rest)
    (hs : s.sender = none) (hi : s.hostIn = encode i :: ms) (hw : i.wellFormed = true) (hirq : i ≠ .irqService) :
    step s = exec i (commandTaken rest ms s) := by
  rw [step_of_cons s _ rest ha]
  exact (foregroundStep_of_message (s := { s with agenda := rest }) hs hi).trans
    (runMessage_of_ok (decodeMessage_encode hw hirq) _)

/-- R180, R183: the step that begins a write outside Standby. -/
theorem step_of_write {s : State} {data : List Byte} {ms : List Message} {rest : List Move}
    (ha : s.agenda = .foreground :: rest) (hs : s.sender = none) (hi : s.hostIn = encode (.writePayload data) :: ms)
    (hl : data.length ≤ 255) (hm : s.mode ≠ .standby) :
    step s = .next (sendBytes .write data (commandTaken rest ms s)) :=
  (step_of_command ha hs hi (decide_eq_true hl) nofun).trans (exec_writePayload_of_active data hm)

/-- R181: the foreground's step with a command waiting. -/
theorem step_of_wait {s : State} {snd : Sender} {rest : List Move} (ha : s.agenda = .foreground :: rest)
    (hs : s.sender = some snd) : step s = .next (senderLoop snd { s with agenda := rest }) := by
  rw [step_of_cons s _ rest ha]
  exact foregroundStep_of_sender (s := { s with agenda := rest }) hs

/-- R28: the line rises and falls, which latches an interrupt. -/
theorem runs_edge {s : State} {rest : List Move} (he : s.irqEn = true)
    (ha : s.agenda = .irqLine true :: .irqLine false :: rest) :
    Runs 2 s { s with irqLine := false, irqPend := true, agenda := rest } := by
  refine ⟨setIrqLine true { s with agenda := .irqLine false :: rest }, step_of_cons s _ _ ha, Runs.one ?_⟩
  rw [step_of_cons _ (.irqLine false) rest rfl, perform, setIrqLine_eq, setIrqLine_eq]
  simp [he]

/-- R210, R211: the service of a completion enters receive. -/
theorem step_of_completionServed {s : State} (h : CompletionServed s) :
    step s = .next { moved s with
      mode := .receiving, ce := true, irqPend := false,
      radioTrace := s.radioTrace ++ [.readStatus, .ce false, .setMode .rx, .ce true, .clearFlags true true true] } := by
  obtain ⟨hi, he, hp, hc⟩ := h
  have hdone : s.radioStatus.txConcluded = true := by simpa [StatusRec.txConcluded] using hc
  rw [step_of_interrupt s hi, interruptStep_of_enabled (s := moved s) he hp]
  refine congrArg Host.Outcome.next ((if_pos hdone).trans ?_)
  rw [txDone_eq, radioStatusRead_eq]
  simp only [transact_radioTrace, irqEntry_radioTrace, List.append_assoc]
  rfl

/-- R28, R211: the moves that end one wait: the line rises and falls, the completion is served, the foreground goes on. -/
def completedWait : List Move := [.irqLine true, .irqLine false, .interrupt, .foreground]

/-- R28, R211: the state in which the waiting command goes on after those moves. -/
def completed (rest : List Move) (s : State) : State :=
  { s with
    mode := .receiving, ce := true, irqLine := false, irqPend := false, agenda := rest,
    radioTrace := s.radioTrace ++ [.readStatus, .ce false, .setMode .rx, .ce true, .clearFlags true true true] }

/-- What stays true while the clock stands and every wait ends with a completion. -/
structure CompletionsCome (s : State) : Prop where
  irqEn : s.irqEn = true
  still : s.nowNext = []
  completion : s.radioStatus.txDs = true ∨ s.radioStatus.maxRt = true

/-- R181, R211: a wait that ends with a completion. -/
theorem runs_completedWait {s : State} {snd : Sender} {rest : List Move} (hc : CompletionsCome s) (hs : s.sender = some snd)
    (ha : s.agenda = completedWait ++ rest) : Runs 4 s (senderLoop snd (completed rest s)) := by
  have hedge := runs_edge (rest := .interrupt :: .foreground :: rest) hc.irqEn ha
  have hserve := step_of_completionServed
    (s := { s with irqLine := false, irqPend := true, agenda := .interrupt :: .foreground :: rest })
    ⟨rfl, hc.irqEn, rfl, hc.completion⟩
  exact hedge.trans (.trans (.one hserve) (.one (step_of_wait rfl hs)))

/-! ## The whole write -/

/-- R182, R183: what a write of `data` that has sent its first `k` frames has changed when it ends with all of them sent. -/
structure SentFrom (data : List Byte) (k : Nat) (s t : State) : Prop where
  frames : framesWritten t.radioTrace =
    framesWritten s.radioTrace ++ (List.range' k (frameCount data.length - k)).map fun j => frameOf (chunk data j)
  answer : t.hostOut = s.hostOut ++ [[0x00#8, BitVec.ofNat 8 (frameCount data.length)]]
  mode : t.mode = .transmitting
  reset : t.cntReset = s.cntReset
  queues : t.q = s.q
  sender : t.sender = none

/-- R33: the transient `snd` of a WRITE_PAYLOAD of `data` that has sent its first `k` frames. -/
structure WaitsToSend (data : List Byte) (k : Nat) (snd : Sender) : Prop where
  data : snd.data = data
  len : snd.len = BitVec.ofNat 8 snd.data.length
  k : snd.k = k
  sent : snd.sent = BitVec.ofNat 8 snd.k
  reply : snd.reply = .write

theorem WaitsToSend.fresh (data : List Byte) (t : Clock) : WaitsToSend data 0 (.fresh .write data t) :=
  ⟨rfl, rfl, rfl, rfl, rfl⟩

theorem WaitsToSend.afterFrame {data : List Byte} {k : Nat} {snd : Sender} (h : WaitsToSend data k snd) (t : Clock) :
    WaitsToSend data (k + 1) (snd.afterFrame t) where
  data := h.data
  len := h.len
  k := congrArg (· + 1) h.k
  sent := by rw [Sender.afterFrame, h.sent, BitVec.ofNat_add]
  reply := h.reply

/-- R182: what has changed in `u` when frame `k` of `data` has been sent after `s` and the write goes on. -/
structure SentOne (data : List Byte) (k : Nat) (s u : State) : Prop where
  frames : framesWritten u.radioTrace = framesWritten s.radioTrace ++ [frameOf (chunk data k)]
  answer : u.hostOut = s.hostOut
  reset : u.cntReset = s.cntReset
  queues : u.q = s.q

/-- R211: a completion writes no frame. -/
theorem SentOne.completed {data : List Byte} {k : Nat} {s u : State} (h : SentOne data k s u) (rest : List Move) :
    SentOne data k s (completed rest u) :=
  ⟨(framesWritten_append _ _).trans ((List.append_nil _).trans h.frames), h.answer, h.reset, h.queues⟩

/-- R182: frame `k` comes before all those after it. -/
theorem SentFrom.of_succ {data : List Byte} {k : Nat} {s u t : State} (hk : k < frameCount data.length)
    (h : SentOne data k s u) (h' : SentFrom data (k + 1) u t) : SentFrom data k s t where
  frames := by
    rw [h'.frames, h.frames, show frameCount data.length - k = frameCount data.length - (k + 1) + 1 by omega,
      List.range'_succ, List.map_cons, List.append_assoc, List.singleton_append]
  answer := by rw [h'.answer, h.answer]
  mode := h'.mode
  reset := h'.reset.trans h.reset
  queues := h'.queues.trans h.queues
  sender := h'.sender

section
variable {data : List Byte} {k : Nat} {s : State} {snd : Sender}

/-- R182, R183: the last frame ends the write. -/
theorem senderLoop_ends (hl : data.length ≤ 255) (hm : s.mode ≠ .transmitting) (hs : WaitsToSend data k snd)
    (hk : k + 1 = frameCount data.length) : SentFrom data k s (senderLoop snd s) := by
  obtain ⟨rfl, hlen, rfl, hsent, hreply⟩ := hs
  rw [senderLoop_of_last hm (by rw [hlen, toNat_lengthByte hl, hk]), hsent, hreply]
  refine ⟨?_, ?_, rfl, rfl, rfl, rfl⟩
  · rw [framesWritten_append, ← hk, Nat.add_sub_cancel_left]
    rfl
  · rw [← hk, BitVec.ofNat_add]
    rfl

/-- R181, R183: another frame begins the next wait, which a clock that stands does not end. -/
theorem senderLoop_waits (hl : data.length ≤ 255) (hc : CompletionsCome s) (hm : s.mode ≠ .transmitting)
    (hs : WaitsToSend data k snd) (hk : k + 1 < frameCount data.length) :
    ∃ snd', WaitsToSend data (k + 1) snd' ∧ (senderLoop snd s).sender = some snd' ∧
      CompletionsCome (senderLoop snd s) ∧ SentOne data k s (senderLoop snd s) ∧ (senderLoop snd s).agenda = s.agenda := by
  have hs' := hs.afterFrame (sample 1 s)
  obtain ⟨rfl, hlen, rfl, -, -⟩ := hs
  rw [senderLoop_of_more_of_le hm (by rwa [hlen, toNat_lengthByte hl]) (sample_sub_sample_of_still hc.still 2 1),
    afterSamples_of_still hc.still]
  exact ⟨_, hs', rfl, ⟨hc.irqEn, hc.still, hc.completion⟩, ⟨framesWritten_append _ _, rfl, rfl, rfl⟩, rfl⟩

end

/-- R182, R183, R188: with `r` waits to come, each of which completes, the write sends all its frames. -/
theorem runs_senderLoop_of_completions {data : List Byte} {later : List Move} (hl : data.length ≤ 255) (r : Nat) {k : Nat}
    {s : State} {snd : Sender} (hc : CompletionsCome s) (hm : s.mode ≠ .transmitting) (hs : WaitsToSend data k snd)
    (hk : k + (r + 1) = frameCount data.length) (ha : s.agenda = (List.replicate r completedWait).flatten ++ later) :
    ∃ t, Runs (4 * r) (senderLoop snd s) t ∧ SentFrom data k s t ∧ t.agenda = later := by
  induction r generalizing k s snd with
  | zero =>
    refine ⟨_, rfl, senderLoop_ends hl hm hs hk, ?_⟩
    rw [senderLoop_frame]
    exact ha
  | succ r ih =>
    obtain ⟨snd', hs', hsnd', hc', hone, ha'⟩ := senderLoop_waits hl hc hm hs (by omega)
    rw [ha, List.replicate_succ, List.flatten_cons, List.append_assoc] at ha'
    obtain ⟨t, hruns, hsent, hlater⟩ :=
      ih (s := completed ((List.replicate r completedWait).flatten ++ later) (senderLoop snd s))
        ⟨hc'.irqEn, hc'.still, hc'.completion⟩ nofun hs' (by omega) rfl
    refine ⟨t, ?_, hsent.of_succ (by omega) (hone.completed _), hlater⟩
    rw [Nat.mul_succ, Nat.add_comm]
    exact (runs_completedWait hc' hsnd' ha').trans hruns

/-- Settles O26: the command's first step, then `runs_senderLoop_of_completions` from frame 0. -/
theorem completedWaitsSendEveryFrame : Obligations.CompletedWaitsSendEveryFrame := by
  intro s data ms later hm hs he hstill hdone hl hi ha
  have hstep := step_of_write ha hs hi hl fun h => nomatch hm.symm.trans h
  rw [sendBytes_of_still _ _ (s := commandTaken _ ms s) hstill] at hstep
  have hcount : 0 + (frameCount data.length - 1 + 1) = frameCount data.length := by
    have := frameCount_pos data.length
    omega
  obtain ⟨t, hruns, hsent, hlater⟩ := runs_senderLoop_of_completions hl (frameCount data.length - 1)
    (snd := .fresh .write data s.now) (s := commandTaken _ ms s) ⟨he, hstill, hdone⟩ (fun h => nomatch hm.symm.trans h)
    (.fresh data s.now) hcount rfl
  refine ⟨t, (Runs.one hstep).trans hruns, ?_, hsent.answer, hsent.mode, hsent.reset, hsent.queues, hsent.sender, hlater⟩
  rw [List.range_eq_range']
  exact hsent.frames

end Sys2Proof.Machine

/-! SUPPORT. A wait that is polled past its timeout, and when Transmitting is left (42_outbound_sender R190, 44_tree_router
R254, 70_reset_and_hazards R338). -/

namespace Sys2Proof.Machine

/-! ## A polled wait -/

/-- R76: the clock is set and the waiting command polls it, once for each value. -/
def polling (values : List Clock) : List Move := values.flatMap fun c => [.clock c [], .foreground]

/-- R40: the clock stands at `c` with the moves `rest` to come. -/
def clockAt (c : Clock) (rest : List Move) (s : State) : State := { s with now := c, nowNext := [], agenda := rest }

/-- R181: one poll of a waiting command. -/
theorem runs_poll {s : State} {snd : Sender} {c : Clock} {rest : List Move} (hs : s.sender = some snd)
    (ha : s.agenda = .clock c [] :: .foreground :: rest) : Runs 2 s (senderLoop snd (clockAt c rest s)) :=
  .trans (.one (step_of_cons s _ _ ha)) (.one (step_of_wait (s := clockAt c (.foreground :: rest) s) rfl hs))

/-- R181, R284: a wait polled within its timeout goes on; the first poll past it ends the command by the watchdog. -/
theorem runs_polling {snd : Sender} {last : Clock} {later : List Move} (polls : List Clock) {s : State}
    (hm : s.mode = .transmitting) (hs : s.sender = some snd) (ha : s.agenda = polling (polls ++ [last]) ++ later)
    (hpolls : ∀ c ∈ polls, (c - snd.tWait).toNat ≤ s.params.txTimeoutMs.toNat)
    (hlast : s.params.txTimeoutMs.toNat < (last - snd.tWait).toNat) :
    Runs (2 * (polls.length + 1)) s (finishSend snd .timeout (watchdogFires (clockAt last later s))) := by
  induction polls generalizing s with
  | nil =>
    have hrun := runs_poll (rest := later) hs ha
    rcases senderExpiry_cases snd (clockAt last later s) with ⟨-, he⟩ | ⟨he, -⟩
    · rwa [senderLoop_of_transmitting snd (s := clockAt last later s) hm, he] at hrun
    · exact absurd (he.symm.trans (expired_of_lt hlast)) nofun
  | cons c polls ih =>
    have hrun := runs_poll (rest := polling (polls ++ [last]) ++ later) hs ha
    rw [senderLoop_of_transmitting snd (s := clockAt c _ s) hm,
      senderExpiry_of_le (s := clockAt c _ s) (hpolls c List.mem_cons_self), ← hs] at hrun
    have hrest := ih (s := clockAt c (polling (polls ++ [last]) ++ later) s) hm hs rfl
      (fun d hd => hpolls d (List.mem_cons_of_mem c hd)) hlast
    rw [List.length_cons, Nat.mul_succ, Nat.add_comm]
    exact hrun.trans hrest

/-- R181, R184: a command that begins in Transmitting while the clock stands waits. -/
theorem sendBytes_waits (reply : SendReply) (data : List Byte) {s : State} (hm : s.mode = .transmitting)
    (h : s.nowNext = []) : sendBytes reply data s = { s with sender := some (.fresh reply data s.now) } := by
  rw [sendBytes_of_still reply data h, senderLoop_of_transmitting _ hm, senderExpiry_of_le, clockSampled_of_still h]
  · rw [Sender.fresh, BitVec.sub_self]
    exact Nat.zero_le _

/-- R190: `t` is `s` after a command that waited has ended by the watchdog, with the result bytes `r` and the moves `later` to
come. -/
structure EndedByWatchdog (r : List Byte) (later : List Move) (s t : State) : Prop where
  answer : t.hostOut = s.hostOut ++ [0x02#8 :: r]
  mode : t.mode = .receiving
  reset : t.cntReset = satInc s.params s.cntReset
  trace : t.radioTrace = s.radioTrace ++ ([.clearFlags true true true, .ce false, .setMode .rx, .ce true] : List RadioOp)
  cksum : t.cntCksumErr = s.cntCksumErr
  queues : t.q = s.q
  dispatch : t.dispatchOut = s.dispatchOut
  txAddr : txAddress t = txAddress s
  sender : t.sender = none
  agenda : t.agenda = later

/-- R190: a command that begins its send in Transmitting, in the state `b`, polled until a sample lies past the timeout. -/
theorem runs_command_polled {s b : State} {reply : SendReply} {data : List Byte} {polls : List Clock} {last : Clock}
    {later : List Move} (hstep : step s = .next (sendBytes reply data b)) (hm : b.mode = .transmitting)
    (hstill : b.nowNext = []) (ha : b.agenda = polling (polls ++ [last]) ++ later)
    (hpolls : ∀ c ∈ polls, (c - b.now).toNat ≤ b.params.txTimeoutMs.toNat)
    (hlast : b.params.txTimeoutMs.toNat < (last - b.now).toNat) :
    ∃ t, Runs (1 + 2 * (polls.length + 1)) s t ∧ EndedByWatchdog (replyBytes reply 0#8) later b t := by
  rw [sendBytes_waits reply data hm hstill] at hstep
  refine ⟨_, (Runs.one hstep).trans (runs_polling polls hm rfl ha hpolls hlast), ?_⟩
  rw [finishSend_eq_replyBytes, watchdogFires_eq]
  exact ⟨rfl, rfl, rfl, rfl, rfl, rfl, rfl, rfl, rfl, rfl⟩

/-! ## A forwarded packet -/

/-- R25, R254: an address taken apart and put together again. -/
theorem addrHi_append_addrLo (a : RadioAddr) : addrHi a ++ addrLo a = a := by
  rw [addrHi, addrLo, BitVec.extractLsb'_append_extractLsb'_eq_extractLsb' (show 8 = 0 + 8 from rfl)]
  exact BitVec.extractLsb'_eq_self

/-- A field taken from a field. -/
theorem extractLsb'_extractLsb'_of_le {w l : Nat} (x : BitVec w) (i j : Nat) {m : Nat} (h : j + m ≤ l) :
    (x.extractLsb' i l).extractLsb' j m = x.extractLsb' (i + j) m := by
  ext k hk
  have hin : j + k < l := by omega
  simp [hin, Nat.add_assoc]

/-- R115, R254: the bytes of an address, least significant first. -/
theorem addr5_of_radioAddr (a : RadioAddr) : addr5 (addrHi a) (addrLo a) =
    [a.extractLsb' 0 8, a.extractLsb' 8 8, a.extractLsb' 16 8, a.extractLsb' 24 8, a.extractLsb' 32 8] := by
  simp [addr5, addrHi, addrLo, extractLsb'_extractLsb'_of_le]

/-- R11: an entry of the list of child addresses is that child's address. -/
theorem childAddrs_get_of_getElem? {p : Params} {c : Child} {a : RadioAddr}
    (h : [p.childAddrs.a1, p.childAddrs.a2, p.childAddrs.a3, p.childAddrs.a4, p.childAddrs.a5][c.num - 1]? = some a) :
    p.childAddrs.get c = a := by
  cases c <;> exact Option.some.inj h

section
variable {h : Header} {s : State} {a : RadioAddr} {reply : SendReply} {act : List Byte}

/-- R240, R254: a packet for another node goes to the sender, the transmit address written. -/
theorem routePacket_of_forwardedTo (hf : ForwardedTo s.params (h.h0 ++ h.h1 ++ h.h2) a reply act) (data : List Byte) :
    routePacket h data s = sendBytes reply (h.bytes ++ data) (writeTxAddr (addrHi a) (addrLo a) s) := by
  rcases hf with ⟨hr, hp, rfl, rfl, rfl⟩ | ⟨c, hr, hc, rfl, rfl⟩
  · rw [routePacket, show routeDecision s.params h.dest s.params.boardAddress = .up from hr]
    exact if_pos hp
  · rw [routePacket, show routeDecision s.params h.dest s.params.boardAddress = .down c from hr,
      ← childAddrs_get_of_getElem? hc]
    rfl

/-- R241: the result bytes of a forward are those of its route, however many frames were sent. -/
theorem replyBytes_of_forwardedTo {p : Params} {d : TreeAddr} (hf : ForwardedTo p d a reply act) (sent : Byte) :
    replyBytes reply sent = act := by
  rcases hf with ⟨-, -, -, rfl, rfl⟩ | ⟨c, -, -, rfl, rfl⟩ <;> rfl

end

/-- R240, R254: the state in which the sender of a forwarded packet begins: the packet is taken and the transmit address
written. -/
def forwardBegun (p : Pipe) (h : Header) (rest : List Byte) (a : RadioAddr) (s : State) : State :=
  { s with
    q := s.q.set p rest, rtHdr := s.rtHdr.set p h, rtHdrValid := s.rtHdrValid.set p false, cfgTxHi := addrHi a,
    cfgTxLo := addrLo a, radioTrace := s.radioTrace ++ [.writeReg .txAddr
      [a.extractLsb' 0 8, a.extractLsb' 8 8, a.extractLsb' 16 8, a.extractLsb' 24 8, a.extractLsb' 32 8]] }

theorem writeTxAddr_packetTaken (p : Pipe) (h : Header) (rest : List Byte) (a : RadioAddr) (s : State) :
    writeTxAddr (addrHi a) (addrLo a) (packetTaken p h rest s) = forwardBegun p h rest a s := by
  rw [forwardBegun, ← addr5_of_radioAddr]
  rfl

/-- R240, R254: a forwarding ROUTE_STEP. -/
theorem exec_routeStep_of_forwardedTo {pipe : Byte} {p : Pipe} {h : Header} {data rest : List Byte} {s : State}
    {a : RadioAddr} {reply : SendReply} {act : List Byte} (hm : s.mode ≠ .standby) (hp : pipe.toNat = p.num)
    (hr : PacketReady p h data rest s) (hf : ForwardedTo s.params (h.h0 ++ h.h1 ++ h.h2) a reply act) :
    exec (.routeStep pipe) s = .next (sendBytes reply (h.bytes ++ data) (forwardBegun p h rest a s)) := by
  rw [exec_routeStep_of_packet pipe p h data rest s hm hp hr, routePacket_of_forwardedTo (s := packetTaken p h rest s) hf,
    writeTxAddr_packetTaken]

/-- R240, R254: the step that begins a forward. -/
theorem step_of_forward {s : State} {pipe : Byte} {p : Pipe} {h : Header} {data rest : List Byte} {a : RadioAddr}
    {reply : SendReply} {act : List Byte} {ms : List Message} {moves : List Move} (ha : s.agenda = .foreground :: moves)
    (hs : s.sender = none) (hi : s.hostIn = encode (.routeStep pipe) :: ms) (hm : s.mode ≠ .standby)
    (hp : pipe.toNat = p.num) (hr : PacketReady p h data rest s)
    (hf : ForwardedTo s.params (h.h0 ++ h.h1 ++ h.h2) a reply act) :
    step s = .next (sendBytes reply (h.bytes ++ data) (forwardBegun p h rest a (commandTaken moves ms s))) :=
  (step_of_command ha hs hi rfl nofun).trans (exec_routeStep_of_forwardedTo (s := commandTaken moves ms s) hm hp hr hf)

/-! ## Steps out of Transmitting -/

/-- R23: the next step leaves Transmitting. -/
def LeavesTransmitting (s : State) : Prop := ∃ t, step s = .next t ∧ t.mode ≠ .transmitting

/-- R23: a hardware reset does. -/
theorem ResetNext.leaves {s : State} (h : ResetNext s) : LeavesTransmitting s := by
  obtain ⟨u, hu⟩ := h
  refine ⟨hardwareReset u (moved s), ?_, nofun⟩
  rw [step_eq_perform, hu]
  rfl

/-- R211: so does a completion served. -/
theorem CompletionServed.leaves {s : State} (h : CompletionServed s) : LeavesTransmitting s :=
  ⟨_, step_of_completionServed h, nofun⟩

/-- R284: and a wait past its timeout. -/
theorem WaitExpires.leaves {s : State} (h : WaitExpires s) (hm : s.mode = .transmitting) : LeavesTransmitting s := by
  obtain ⟨hf, snd, hs, ht⟩ := h
  refine ⟨_, step_of_expired_wait hf hs hm ht, ?_⟩
  rw [finishSend_eq_replyBytes, watchdogFires_eq]
  exact nofun

/-- R338: a send begun or continued in Transmitting leaves that mode, or leaves its command waiting. -/
theorem senderLoop_leaves_or_waits (snd : Sender) {s : State} (hm : s.mode = .transmitting) :
    (senderLoop snd s).mode ≠ .transmitting ∨ (senderLoop snd s).sender ≠ none := by
  rcases senderLoop_endings snd s with ⟨-, h⟩ | h | ⟨hn, -⟩
  · rw [h]
    exact .inr nofun
  · rw [h]
    exact .inl nofun
  · exact absurd hm hn

/-- R216, R338: DATA_READY fires the watchdog once the elapsed time lies past the timeout. -/
theorem exec_dataReady_of_expired {s : State} (hm : s.mode = .transmitting)
    (ht : s.params.txTimeoutMs.toNat < (s.now - s.txStart).toNat) :
    exec .dataReady s = .next (respond .ok [0#8] (watchdogFires (clockSampled s))) := by
  refine (congrArg Host.Outcome.next (gate_open _ _ s (by simp [hm]))).trans (congrArg Host.Outcome.next ?_)
  rw [dataReadyBody, if_pos (show transmitting s = true from decide_eq_true hm)]
  exact if_pos (expired_of_lt ht)

/-- R338: each of the commands that attend to the LLC leaves Transmitting, or waits in it. -/
theorem HostAttends.leaves_or_waits {s : State} (h : HostAttends s) (hm : s.mode = .transmitting) :
    ∃ t, step s = .next t ∧ (t.mode ≠ .transmitting ∨ t.sender ≠ none) := by
  obtain ⟨hf, hs, m, ms, i, hi, hd, hcmd⟩ := h
  have hstep : step s = exec i (commandTaken s.agenda.tail ms s) := by
    rw [step_of_foreground s hf, foregroundStep_of_message (s := moved s) hs hi, runMessage_of_ok hd]
    rfl
  have hactive : s.mode ≠ .standby := by simp [hm]
  rw [hstep]
  rcases hcmd with ⟨data, rfl⟩ | ⟨pipe, rfl, p, h, data, rest, a, reply, act, hp, hr, hfw⟩ | ⟨rfl, ht⟩ | rfl | rfl
  · exact ⟨_, exec_writePayload_of_active data hactive, senderLoop_leaves_or_waits _ hm⟩
  · exact ⟨_, exec_routeStep_of_forwardedTo (s := commandTaken _ ms s) hactive hp hr hfw,
      senderLoop_leaves_or_waits _ hm⟩
  · refine ⟨_, exec_dataReady_of_expired (s := commandTaken _ ms s) hm ht, .inl ?_⟩
    rw [watchdogFires_eq]
    exact nofun
  · refine ⟨_, exec_resetToRx_of_active hactive, .inl ?_⟩
    rw [resetToReceive_eq]
    exact nofun
  · refine ⟨_, exec_init_eq _, .inl ?_⟩
    rw [initSequence_eq]
    exact nofun

/-- R338: a step to which nobody attends stays in Transmitting. -/
theorem NobodyAttends.mode_eq {s t : State} (h : NobodyAttends s) (hx : step s = .next t) : t.mode = s.mode := by
  obtain ⟨hr, hc, hf⟩ := h
  rcases step_cases hx hr with ⟨hfg, hx⟩ | ⟨hi, he, hp, hx⟩ | ⟨-, hx⟩
  · obtain ⟨hs, hin⟩ := hf hfg
    cases (foregroundStep_of_idle (s := moved s) hs hin).symm.trans hx
    rfl
  · by_contra hne
    exact hc ⟨hi, he, hp, (exec_irqService_mode hx hne).1⟩
  · exact (congrArg State.mode hx :)

/-! ## Endless runs -/

/-- R76: the next state of an endless run has the mode and the transient that the step leads to. -/
theorem Trace.succ {σ : Nat → State} (h : Trace σ) {n : Nat} {t : State} (hx : step (σ n) = .next t) :
    (σ (n + 1)).mode = t.mode ∧ (σ (n + 1)).sender = t.sender := by
  obtain ⟨t', agenda, hx', he⟩ := h n
  cases hx.symm.trans hx'
  rw [he]
  exact ⟨rfl, rfl⟩

theorem Trace.left {σ : Nat → State} (h : Trace σ) {n : Nat} (hl : LeavesTransmitting (σ n)) :
    (σ (n + 1)).mode ≠ .transmitting := by
  obtain ⟨t, hx, ht⟩ := hl
  rwa [(h.succ hx).1]

/-- R338: with a premise for the waiting command and one for the host, a stay in Transmitting ends. -/
theorem Trace.leaves_transmitting {σ : Nat → State} (h : Trace σ)
    (hhost : ∀ n, (σ n).mode = .transmitting → (σ n).sender = none → ∃ m, n ≤ m ∧
      (CompletionServed (σ m) ∨ HostAttends (σ m) ∨ ResetNext (σ m)))
    (hwait : ∀ n, (σ n).mode = .transmitting → (σ n).sender ≠ none → ∃ m, n ≤ m ∧
      (CompletionServed (σ m) ∨ WaitExpires (σ m) ∨ ResetNext (σ m))) (n : Nat) :
    ∃ m, n ≤ m ∧ (σ m).mode ≠ .transmitting := by
  by_contra hstay
  simp only [not_exists, not_and, not_not] at hstay
  have hnever : ∀ m, n ≤ m → ¬ LeavesTransmitting (σ m) := fun m hm hl => h.left hl (hstay (m + 1) (by omega))
  have hnowait : ∀ m, n ≤ m → (σ m).sender = none := by
    intro m hm
    by_contra hs
    obtain ⟨m', hm', hc | hx | hr⟩ := hwait m (hstay m hm) hs
    · exact hnever m' (by omega) hc.leaves
    · exact hnever m' (by omega) (hx.leaves (hstay m' (by omega)))
    · exact hnever m' (by omega) hr.leaves
  obtain ⟨m, hm, hc | ha | hr⟩ := hhost n (hstay n le_rfl) (hnowait n le_rfl)
  · exact hnever m hm hc.leaves
  · obtain ⟨t, hx, ht⟩ := ha.leaves_or_waits (hstay m hm)
    obtain ⟨hmode, hsender⟩ := h.succ hx
    rcases ht with ht | ht
    · exact ht (hmode ▸ hstay (m + 1) (by omega))
    · exact ht (hsender ▸ hnowait (m + 1) (by omega))
  · exact hnever m hm hr.leaves

/-- R338: with nobody attending it does not. -/
theorem Trace.stays_transmitting {σ : Nat → State} (h : Trace σ) (hnobody : ∀ n, NobodyAttends (σ n))
    (h0 : (σ 0).mode = .transmitting) (n : Nat) : (σ n).mode = .transmitting := by
  induction n with
  | zero => exact h0
  | succ n ih =>
    obtain ⟨t, hx⟩ := step_next (σ n)
    rw [(h.succ hx).1, (hnobody n).mode_eq hx, ih]

/-- Settles O25: a write and a forward each end by `runs_command_polled`; the two statements about endless runs follow. -/
theorem watchdogEndsTheWait : Obligations.WatchdogEndsTheWait := by
  refine ⟨?_, ?_, fun σ h hhost hwait n _ => h.leaves_transmitting hhost hwait n,
    fun σ h hnobody h0 => h.stays_transmitting hnobody h0⟩
  · intro s data ms polls last later hm hs hstill hl hi ha hpolls hlast
    change s.agenda = .foreground :: (polling (polls ++ [last]) ++ later) at ha
    have hactive : s.mode ≠ .standby := by simp [hm]
    obtain ⟨t, hruns, e⟩ := runs_command_polled (polls := polls) (step_of_write ha hs hi hl hactive) hm hstill rfl
      hpolls hlast
    exact ⟨t, hruns, e.answer, e.mode, e.reset, e.trace, e.cksum, e.queues, e.sender, e.agenda⟩
  · intro s pipe p h data rest a reply act ms polls last later hm hs hstill hp hr hf hi ha hpolls hlast
    change s.agenda = .foreground :: (polling (polls ++ [last]) ++ later) at ha
    have hactive : s.mode ≠ .standby := by simp [hm]
    obtain ⟨t, hruns, e⟩ := runs_command_polled (polls := polls) (step_of_forward ha hs hi hactive hp hr hf) hm hstill
      rfl hpolls hlast
    rw [replyBytes_of_forwardedTo hf] at e
    exact ⟨t, hruns, e.answer, e.mode, e.reset, e.trace.trans (List.append_assoc _ _ _),
      e.txAddr.trans (addrHi_append_addrLo a), e.cksum, e.queues, e.dispatch, e.sender, e.agenda⟩

end Sys2Proof.Machine

/-! SUPPORT. What an interrupt service does, by the record and the frame it reads; DATA_READY, the pipe commands and the counters
(43_inbound_demux R210 to R225). -/

namespace Sys2Proof

theorem Pipe.ofField?_eq_some (v : BitVec 3) (p : Pipe) : Pipe.ofField? v = some p ↔ v.toNat = p.num :=
  Pipe.ofNat?_eq_some _ _

theorem Pipe.ofField?_eq_none (v : BitVec 3) : Pipe.ofField? v = none ↔ 6 ≤ v.toNat := Pipe.ofNat?_eq_none _

end Sys2Proof

namespace Sys2Proof.Machine

/-! ## Delivery, and the cases of the status record -/

/-- R215: everything the delivery of a valid frame does. -/
theorem deliver_of_valid {p : Pipe} {f : List Byte} (h : (decodeFrameOf f).valid = true) (s : State) :
    deliver p f s = queuePushAll p (decodeFrameOf f).payload s := if_pos h

/-- R215, R283: everything the delivery of an invalid frame does. -/
theorem deliver_of_invalid {p : Pipe} {f : List Byte} (h : (decodeFrameOf f).valid = false) (s : State) :
    deliver p f s =
      { s with
        cntCksumErr := satInc s.params s.cntCksumErr, conditions := s.conditions ++ [.checksumMismatch p] } := by
  rcases deliver_cases p f s with ⟨hv, -⟩ | ⟨-, e⟩
  · exact absurd (h.symm.trans hv) nofun
  · exact e

theorem txConcluded_iff (r : StatusRec) : r.txConcluded = true ↔ r.txDs = true ∨ r.maxRt = true := by
  rw [StatusRec.txConcluded, Bool.or_eq_true]

theorem txConcluded_eq_false {r : StatusRec} (htx : r.txDs = false) (hmax : r.maxRt = false) : r.txConcluded = false := by
  rw [StatusRec.txConcluded, htx, hmax, Bool.or_false]

/-- R210: the service after its entry and its status read. -/
def statusTaken (s : State) : State := { s with irqPend := false, radioTrace := s.radioTrace ++ [.readStatus] }

/-- R210: a service acts on the record it reads first. -/
theorem exec_irqService_eq (s : State) : exec .irqService s = .next (demultiplex s.radioStatus (statusTaken s)) := rfl

/-- R213: the service after its four transactions of a receive. -/
def frameTaken (s : State) : State :=
  { s with
    irqPend := false,
    radioTrace := s.radioTrace ++ [.readStatus, .readRxPayload, .flushRx, .clearFlags true false false] }

section
variable {s : State}

/-- R211, R212: a completion goes before everything else in the record. -/
theorem exec_irqService_of_concluded (h : s.radioStatus.txConcluded = true) :
    exec .irqService s = .next { s with
      irqPend := false, mode := .receiving, ce := true,
      radioTrace := s.radioTrace ++ [.readStatus, .ce false, .setMode .rx, .ce true, .clearFlags true true true] } := by
  rw [exec_irqService_eq, demultiplex, if_pos h, txDone_eq, statusTaken, List.append_assoc]
  rfl

section
variable (hc : s.radioStatus.txConcluded = false)
include hc

/-- R213: data-ready with a valid pipe number takes the frame and delivers it. -/
theorem exec_irqService_of_pipe {p : Pipe} (hrx : s.radioStatus.rxDr = true)
    (hp : Pipe.ofField? s.radioStatus.rxPNo = some p) :
    exec .irqService s = .next (deliver p (frame32 s.radioFrame) (frameTaken s)) := by
  rw [exec_irqService_eq, demultiplex, hc, hrx, hp]
  refine congrArg Host.Outcome.next ((receive_eq p _).trans ?_)
  rw [statusTaken, List.append_assoc]
  rfl

/-- R214: a pipe number of 6 or 7 is recorded and ignored. -/
theorem exec_irqService_of_badPipe (hrx : s.radioStatus.rxDr = true) (hp : Pipe.ofField? s.radioStatus.rxPNo = none) :
    exec .irqService s = .next { s with
      irqPend := false, radioTrace := s.radioTrace ++ [.readStatus],
      conditions := s.conditions ++ [.badPipe s.radioStatus.rxPNo] } := by
  rw [exec_irqService_eq, demultiplex, hc, hrx, hp]
  rfl

/-- R210: a record without flags asks for nothing. -/
theorem exec_irqService_of_noFlag (hrx : s.radioStatus.rxDr = false) : exec .irqService s = .next (statusTaken s) := by
  rw [exec_irqService_eq, demultiplex, hc, hrx]
  rfl

end

/-- R225: the queues after a service: as they were, or with bytes behind those of the pipe that the record names. -/
theorem exec_irqService_queues {t : State} (h : exec .irqService s = .next t) :
    t.q = s.q ∨ ∃ p bs, s.radioStatus.rxPNo.toNat = p.num ∧ t.q = s.q.set p (s.q.get p ++ bs) := by
  cases hc : s.radioStatus.txConcluded with
  | true =>
    cases (exec_irqService_of_concluded hc).symm.trans h
    exact .inl rfl
  | false =>
    cases hrx : s.radioStatus.rxDr with
    | false =>
      cases (exec_irqService_of_noFlag hc hrx).symm.trans h
      exact .inl rfl
    | true =>
      cases hp : Pipe.ofField? s.radioStatus.rxPNo with
      | none =>
        cases (exec_irqService_of_badPipe hc hrx hp).symm.trans h
        exact .inl rfl
      | some p =>
        cases (exec_irqService_of_pipe hc hrx hp).symm.trans h
        cases hv : (decodeFrameOf (frame32 s.radioFrame)).valid with
        | false =>
          rw [deliver_of_invalid hv]
          exact .inl rfl
        | true =>
          rw [deliver_of_valid hv, queuePushAll_eq]
          exact .inr ⟨p, _, (Pipe.ofField?_eq_some _ p).1 hp, rfl⟩

end

/-! ## DATA_READY -/

/-- R216: within the timeout a transmission in flight means no data. -/
theorem exec_dataReady_of_le {s : State} (hm : s.mode = .transmitting)
    (ht : (s.now - s.txStart).toNat ≤ s.params.txTimeoutMs.toNat) :
    exec .dataReady s = .next (respond .ok [0#8] (clockSampled s)) := by
  refine (congrArg Host.Outcome.next (gate_open _ _ s (by simp [hm]))).trans (congrArg Host.Outcome.next ?_)
  rw [dataReadyBody, if_pos (show transmitting s = true from decide_eq_true hm)]
  exact if_neg fun hx => Nat.not_lt.2 ht ((expired_iff _ _ _).1 hx)

/-- R216: otherwise the record is read and tells. -/
theorem exec_dataReady_of_receiving {s : State} (hm : s.mode = .receiving) :
    exec .dataReady s =
      .next (respond .ok [if s.radioStatus.dataWaiting then 1#8 else 0#8] (transact .readStatus s)) := by
  refine (congrArg Host.Outcome.next (gate_open _ _ s (by simp [hm]))).trans (congrArg Host.Outcome.next ?_)
  rw [dataReadyBody, if_neg (by simp [transmitting, hm])]
  rfl

/-! ## PIPE_COUNT, PIPE_READ and the counters -/

/-- R220, R222: the lower of the two bytes is the number modulo 256. -/
theorem be16_eq (c : Nat) : be16 c = [BitVec.ofNat 8 (c / 256), BitVec.ofNat 8 (c % 256)] := by
  have hlow : BitVec.ofNat 8 (c % 256) = BitVec.ofNat 8 c :=
    BitVec.eq_of_toNat_eq (by rw [BitVec.toNat_ofNat, BitVec.toNat_ofNat, Nat.mod_mod])
  rw [be16, hlow]

theorem exec_pipeCount_of_bad {pipe : Byte} (h : 6 ≤ pipe.toNat) (s : State) :
    exec (.pipeCount pipe) s = .next (rejectArg .pipeCount pipe s) := by
  rw [exec, execPipeCount, (Pipe.ofByte?_eq_none pipe).2 h]

theorem exec_pipeCount_of_pipe {pipe : Byte} {p : Pipe} (h : pipe.toNat = p.num) (s : State) :
    exec (.pipeCount pipe) s = .next (respond .ok (be16 (s.q.get p).length) s) := by
  rw [exec, execPipeCount, (Pipe.ofByte?_eq_some pipe p).2 h]
  rfl

theorem exec_pipeRead_of_bad {pipe : Byte} (h : 6 ≤ pipe.toNat) (s : State) :
    exec (.pipeRead pipe) s = .next (rejectArg .pipeRead pipe s) := by
  rw [exec, execPipeRead, (Pipe.ofByte?_eq_none pipe).2 h]

/-- R221: an empty queue stays, and the answer is `EMPTY`. -/
theorem exec_pipeRead_of_nil {pipe : Byte} {p : Pipe} (h : pipe.toNat = p.num) {s : State} (hq : s.q.get p = []) :
    exec (.pipeRead pipe) s = .next { s with
      conditions := s.conditions ++ [.empty p], hostOut := s.hostOut ++ [[0x04#8, 0x00#8]] } := by
  simp only [exec, execPipeRead, (Pipe.ofByte?_eq_some pipe p).2 h, queuePop, hq]
  rfl

/-- R221: otherwise the oldest byte leaves the queue and is the answer. -/
theorem exec_pipeRead_of_cons {pipe : Byte} {p : Pipe} (h : pipe.toNat = p.num) {s : State} {b : Byte} {bs : List Byte}
    (hq : s.q.get p = b :: bs) :
    exec (.pipeRead pipe) s = .next { s with q := s.q.set p bs, hostOut := s.hostOut ++ [[0x00#8, b]] } := by
  simp only [exec, execPipeRead, (Pipe.ofByte?_eq_some pipe p).2 h, queuePop, hq]
  rfl

theorem exec_getCksumErr_eq (s : State) : exec .getCksumErr s = .next (respond .ok (be16 s.cntCksumErr) s) := rfl

theorem exec_getResetCnt_eq (s : State) : exec .getResetCnt s = .next (respond .ok (be16 s.cntReset) s) := rfl

/-! ## The statements -/

/-- Settles O32: the frame taken, then its delivery, by the frame's validity. -/
theorem irqServiceReceivesAFrame : Obligations.IrqServiceReceivesAFrame := by
  intro s p htx hmax hrx hp hlen
  rw [exec_irqService_of_pipe (txConcluded_eq_false htx hmax) hrx ((Pipe.ofField?_eq_some _ p).2 hp),
    frame32_of_length _ hlen]
  refine ⟨fun hv => ?_, fun hv => ?_⟩
  · rw [deliver_of_valid hv, queuePushAll_eq]
    rfl
  · rw [deliver_of_invalid hv]
    rfl

/-- Settles O40: a service by what it does to the queues; a read by whether the pipe's queue is empty. -/
theorem pipesAreIsolated : Obligations.PipesAreIsolated := by
  refine ⟨fun s t h p hne => ?_, fun s1 s2 t1 t2 pipe p hp hq h1 h2 => ?_⟩
  · rcases exec_irqService_queues h with hq | ⟨p', bs, hp', hq⟩
    · rw [hq]
    · rw [hq, PerPipe.get_set_ne _ _ _ _ fun e => hne (hp'.trans (congrArg Pipe.num e.symm))]
  · cases hq1 : s1.q.get p with
    | nil =>
      cases (exec_pipeRead_of_nil hp hq1).symm.trans h1
      cases (exec_pipeRead_of_nil hp (hq.symm.trans hq1)).symm.trans h2
      exact ⟨⟨_, rfl, rfl⟩, hq, fun _ _ => rfl⟩
    | cons b bs =>
      cases (exec_pipeRead_of_cons hp hq1).symm.trans h1
      cases (exec_pipeRead_of_cons hp (hq.symm.trans hq1)).symm.trans h2
      exact ⟨⟨_, rfl, rfl⟩, by simp only [PerPipe.get_set_same], fun _ => PerPipe.get_set_ne _ _ _ _⟩

/-- R182: the one frame that a write of at most 30 bytes hands to the radio. -/
theorem eq_frameOf_of_mem_framesWritten {a ta : State} {data f : List Byte} {tr : List RadioOp} (hm : a.mode = .receiving)
    (hl : data.length ≤ 30) (hx : exec (.writePayload data) a = .next ta) (htr : ta.radioTrace = a.radioTrace ++ tr)
    (hf : f ∈ framesWritten tr) : f = frameOf data := by
  cases (writeSendsOneFrame a data _ hm (encodeFrameOf_of_le data hl)).symm.trans hx
  obtain rfl := List.append_cancel_left htr
  exact List.mem_singleton.1 hf

/-- R215: with room for all of them the bytes are appended, and nothing else changes. -/
theorem queuePushAll_of_room {p : Pipe} {bs : List Byte} {s : State}
    (h : (s.q.get p).length + bs.length ≤ s.params.queueCap) :
    queuePushAll p bs s = { s with q := s.q.set p (s.q.get p ++ bs) } := by
  have hroom : bs.length ≤ queueRoom p s := Nat.le_sub_of_add_le' h
  rw [queuePushAll_eq, List.take_of_length_le hroom, Nat.sub_eq_zero_of_le hroom, List.replicate_zero, List.append_nil]

/-- Settles O41: the write's frame is `frameOf data`, and the codec's round trip gives the service its bytes. -/
theorem endToEndDelivery : Obligations.EndToEndDelivery := by
  intro a ta b data f tr p hm hl hx htr hf hframe hstatus hroom
  obtain rfl := eq_frameOf_of_mem_framesWritten hm hl hx htr hf
  have hdec : decodeFrameOf (frame32 b.radioFrame) = ⟨BitVec.ofNat 8 data.length, data, true⟩ := by
    rw [hframe, frame32_of_length _ (frameOf_length data hl), decodeFrameOf_frameOf hl]
  have hserve := exec_irqService_of_pipe (s := b) (p := p) (by rw [hstatus]; rfl) (by rw [hstatus])
    (by rw [hstatus]; exact Pipe.ofField?_num p)
  rw [deliver_of_valid (by rw [hdec]), hdec, queuePushAll_of_room (s := frameTaken b) hroom] at hserve
  exact ⟨_, hserve, rfl, rfl, rfl⟩

/-- Settles O30: the gate, then the mode and, in Transmitting, the clock. -/
theorem dataReadyResult : Obligations.DataReadyResult := by
  intro s
  refine ⟨decodeMessage_encode (i := .dataReady) rfl nofun, fun hm => ?_, fun hm ht => ?_, fun hm ht => ?_, fun hm => ?_⟩
  · exact exec_gated_of_standby (i := .dataReady) rfl (by decide) hm
  · rw [exec_dataReady_of_expired hm ht, watchdogFires_eq]
    rfl
  · exact exec_dataReady_of_le hm ht
  · rw [exec_dataReady_of_receiving hm]
    simp only [dataWaiting_iff]
    rfl

/-- Settles O31: either completion flag concludes the transmission. -/
theorem irqServiceCompletesTransmission : Obligations.IrqServiceCompletesTransmission := fun s h =>
  exec_irqService_of_concluded ((txConcluded_iff s.radioStatus).2 h)

/-- Settles O33: the two records that ask for nothing. -/
theorem irqServiceIgnoresTheRest : Obligations.IrqServiceIgnoresTheRest := fun _ htx hmax =>
  have hc := txConcluded_eq_false htx hmax
  ⟨fun hrx hp => exec_irqService_of_badPipe hc hrx ((Pipe.ofField?_eq_none _).2 hp), exec_irqService_of_noFlag hc⟩

/-- Settles O37: the pipe check, then the queue's length in two bytes. -/
theorem pipeCountResult : Obligations.PipeCountResult := by
  intro s pipe
  refine ⟨decodeMessage_encode (i := .pipeCount pipe) rfl nofun, fun h => exec_pipeCount_of_bad h s, fun p hp => ?_⟩
  rw [exec_pipeCount_of_pipe hp, be16_eq]
  rfl

/-- Settles O38: the pipe check, then the empty and the non-empty queue. -/
theorem pipeReadResult : Obligations.PipeReadResult := fun s pipe =>
  ⟨decodeMessage_encode (i := .pipeRead pipe) rfl nofun, fun h => exec_pipeRead_of_bad h s,
    fun _ hp => ⟨exec_pipeRead_of_nil hp, fun _ _ => exec_pipeRead_of_cons hp⟩⟩

/-- Settles O39: each response holds its counter in two bytes. -/
theorem counterReadResults : Obligations.CounterReadResults := by
  intro s
  refine ⟨decodeMessage_encode (i := .getCksumErr) rfl nofun, decodeMessage_encode (i := .getResetCnt) rfl nofun, ?_, ?_⟩
  · rw [exec_getCksumErr_eq, be16_eq]
    rfl
  · rw [exec_getResetCnt_eq, be16_eq]
    rfl

end Sys2Proof.Machine

/-! SUPPORT. The route decision (44_tree_router R244, R247). -/

namespace Sys2Proof.Machine

/-- R244, case 1: this node's own address. -/
theorem routeDecision_self (p : Params) (d : TreeAddr) : routeDecision p d d = .here := if_pos rfl

section
variable {p : Params} {d b : TreeAddr}

/-- An address has one depth. -/
theorem ne_of_depth_ne (h : (addrDepth d).toNat ≠ (addrDepth b).toNat) : d ≠ b := by
  rintro rfl
  exact h rfl

/-- R244, case 3: for a destination one level below the parameter function decides. -/
theorem routeDecision_of_oneBelow (h : (addrDepth d).toNat + 1 = (addrDepth b).toNat) :
    routeDecision p d b = (p.down1 (addrWidth d) (addrDepth b)).elim .up .down := by
  have hne : d ≠ b := ne_of_depth_ne (by omega)
  rw [routeDecision, if_neg hne, if_neg (by omega), if_pos (by omega)]
  cases p.down1 (addrWidth d) (addrDepth b) <;> rfl

/-- R244, case 4: for one two levels below the formula of R247 does, on the destination's width. -/
theorem routeDecision_of_twoBelow (h : (addrDepth d).toNat + 2 = (addrDepth b).toNat) :
    routeDecision p d b =
      if (addrWidth d).toNat = 0 then .up else .down (grandchildRoute (addrWidth d).toNat) := by
  have hne : d ≠ b := ne_of_depth_ne (by omega)
  rw [routeDecision, if_neg hne, if_neg (by omega), if_neg (by omega), if_pos (by omega)]

/-- R244, cases 2 and 5: every other destination at another address. -/
theorem routeDecision_of_not_below (hne : d ≠ b) (h1 : (addrDepth d).toNat + 1 ≠ (addrDepth b).toNat)
    (h2 : (addrDepth d).toNat + 2 ≠ (addrDepth b).toNat) : routeDecision p d b = .up := by
  rw [routeDecision, if_neg hne]
  split
  · rfl
  · rw [if_neg (by omega), if_neg (by omega)]

/-- R247: a width of 1 to 15 gives child 1, 2 or 3. -/
theorem grandchildRoute_num {w : Nat} (h : w < 16) :
    (grandchildRoute w).num = (w - 1) / 5 + 1 ∧ (grandchildRoute w).num ≤ 3 := by
  have hquot : (w - 1) / 5 = 0 ∨ (w - 1) / 5 = 1 ∨ (w - 1) / 5 = 2 := by omega
  rcases hquot with h | h | h <;> simp [grandchildRoute, Config.fanout, h, Child.num]

/-- R260: no other destination is this node. -/
theorem routeDecision_ne_here (hne : d ≠ b) : routeDecision p d b ≠ .here := by
  by_cases h1 : (addrDepth d).toNat + 1 = (addrDepth b).toNat
  · rw [routeDecision_of_oneBelow h1]
    cases p.down1 (addrWidth d) (addrDepth b) <;> exact nofun
  by_cases h2 : (addrDepth d).toNat + 2 = (addrDepth b).toNat
  · rw [routeDecision_of_twoBelow h2]
    split <;> exact nofun
  · rw [routeDecision_of_not_below hne h1 h2]
    exact nofun

/-- R260: DOWN only to a destination one or two levels below. -/
theorem below_of_routeDecision_down {c : Child} (h : routeDecision p d b = .down c) :
    (addrDepth d).toNat + 1 = (addrDepth b).toNat ∨ (addrDepth d).toNat + 2 = (addrDepth b).toNat := by
  by_contra hfar
  obtain ⟨h1, h2⟩ := not_or.1 hfar
  have hne : d ≠ b := by
    rintro rfl
    exact nomatch (routeDecision_self p d).symm.trans h
  exact nomatch (routeDecision_of_not_below hne h1 h2).symm.trans h

end

/-- Settles O42: one equation for each case. -/
theorem routeDecisionCases : Obligations.RouteDecisionCases := by
  intro p d b
  refine ⟨fun h => ?_, fun hne h => ?_, fun h => ⟨fun hc => ?_, fun c hc => ?_⟩, fun h => ⟨fun hw => ?_, fun hw => ?_⟩,
    fun hne _ => routeDecision_of_not_below hne⟩
  · rw [h, routeDecision_self]
  · change (addrDepth d).toNat = (addrDepth b).toNat at h
    exact routeDecision_of_not_below hne (by omega) (by omega)
  · rw [routeDecision_of_oneBelow h, show p.down1 (addrWidth d) (addrDepth b) = none from hc]
    rfl
  · rw [routeDecision_of_oneBelow h, show p.down1 (addrWidth d) (addrDepth b) = some c from hc]
    rfl
  · rw [routeDecision_of_twoBelow h, if_pos (show (addrWidth d).toNat = 0 from congrArg BitVec.toNat hw)]
  · have hpos : (addrWidth d).toNat ≠ 0 := fun h0 => hw (BitVec.eq_of_toNat_eq h0)
    rw [routeDecision_of_twoBelow h, if_neg hpos]
    exact ⟨_, rfl, grandchildRoute_num (addrWidth d).isLt⟩

/-- Settles O43: a destination is this node, one or two levels below it, or anywhere else. -/
theorem routeDecisionLaws : Obligations.RouteDecisionLaws := by
  intro p d b
  refine ⟨⟨fun h => ?_, fun h => ?_⟩, fun c hc => ?_, fun hne h => ?_, fun h => ?_⟩
  · by_contra hne
    exact routeDecision_ne_here hne h
  · rw [h, routeDecision_self]
  · have hbelow := below_of_routeDecision_down hc
    unfold addrDepth at hbelow
    omega
  · change (addrDepth b).toNat ≤ (addrDepth d).toNat at h
    exact routeDecision_of_not_below hne (by omega) (by omega)
  · change (addrDepth d).toNat + 2 < (addrDepth b).toNat at h
    exact routeDecision_of_not_below (ne_of_depth_ne (by omega)) (by omega) (by omega)

end Sys2Proof.Machine

/-! SUPPORT. ROUTE_STEP without a whole packet, and a packet for this node or without a route (44_tree_router R240 to R250). -/

namespace Sys2Proof.Machine

/-! ## The operand and the stopped pipe -/

/-- R98, R240: ROUTE_STEP outside Standby with an operand that is no pipe. -/
theorem exec_routeStep_of_bad {pipe : Byte} {s : State} (hm : s.mode ≠ .standby) (h : 6 ≤ pipe.toNat) :
    exec (.routeStep pipe) s = .next (rejectArg .routeStep pipe s) := by
  rw [exec, execRouteStep, gate_open _ _ s hm, routeStepBody, (Pipe.ofByte?_eq_none pipe).2 h]

section
variable {p : Pipe} {s : State}

/-- R246: a stopped pipe answers `ROUTER_ERR`. -/
theorem routePipe_of_stopped (he : s.rtErr.get p = true) :
    routePipe p s = respondAction .routerErr .none (raiseCond (.routerErr p) s) := if_pos he

/-- R243: with a header latched ROUTE_STEP goes on with the data phase. -/
theorem routePipe_of_latched (he : s.rtErr.get p = false) (hv : s.rtHdrValid.get p = true) :
    routePipe p s = dataPhase p s := by rw [routePipe, if_neg (by simp [he]), if_pos hv]

/-- R242: with none it begins with the header phase. -/
theorem routePipe_of_unlatched (he : s.rtErr.get p = false) (hv : s.rtHdrValid.get p = false) :
    routePipe p s = headerPhase p s := by rw [routePipe, if_neg (by simp [he]), if_neg (by simp [hv])]

/-! ## The two phases -/

/-- R243: the data phase waits for data that is not there. -/
theorem dataPhase_of_lt (h : (s.q.get p).length < (s.rtHdr.get p).count.toNat) :
    dataPhase p s = respondAction .pending .none s := if_pos h

/-- R242: the header phase waits for nine bytes. -/
theorem headerPhase_of_lt (h : (s.q.get p).length < 9) : headerPhase p s = respondAction .pending .none s := if_pos h

/-- R242: the state with the header `h` taken from the queue, `rest` left behind it, and latched. -/
def headerLatched (p : Pipe) (h : Header) (rest : List Byte) (s : State) : State :=
  { s with q := s.q.set p rest, rtHdr := s.rtHdr.set p h, rtHdrValid := s.rtHdrValid.set p true }

/-- R242, R246: with a header at the head of the queue its declared count decides between the stop and the data phase. -/
theorem headerPhase_of_header {h : Header} {rest : List Byte} (hq : s.q.get p = h.bytes ++ rest) :
    (21 < h.count.toNat → headerPhase p s = respondAction .routerErr .none
      (raiseCond (.routerErr p) { headerLatched p h rest s with rtErr := s.rtErr.set p true })) ∧
    (h.count.toNat ≤ 21 → headerPhase p s = dataPhase p (headerLatched p h rest s)) := by
  have hlen : ¬ (s.q.get p).length < 9 := by simp [hq]
  rcases headerPhase_cases p s with ⟨hlt, -⟩ | ⟨_, -, rfl, hc, e⟩ | ⟨_, -, rfl, hc, e⟩
  · exact absurd hlt hlen
  all_goals
    rw [hq, take_header_bytes, header_ofBytes_bytes] at hc e
    rw [drop_header_bytes] at e
  · exact ⟨fun _ => e, fun hle => absurd hc (Nat.not_lt.2 hle)⟩
  · exact ⟨fun hlt => absurd hlt (Nat.not_lt.2 hc), fun _ => e⟩

/-- R243: a header latched just now waits for data that is not there. -/
theorem dataPhase_headerLatched_of_lt {h : Header} {rest : List Byte} (hlt : rest.length < h.count.toNat) :
    dataPhase p (headerLatched p h rest s) = respondAction .pending .none (headerLatched p h rest s) :=
  dataPhase_of_lt (by simpa [headerLatched] using hlt)

end

/-- Settles O44: the operand, the stop, and each phase when its bytes are not there. -/
theorem routeStepWithoutAPacket : Obligations.RouteStepWithoutAPacket := by
  intro s pipe hm
  refine ⟨decodeMessage_encode (i := .routeStep pipe) rfl nofun, exec_routeStep_of_bad hm, fun p hp => ?_⟩
  rw [exec_routeStep_of_pipe pipe p s hm hp]
  refine ⟨fun he => ?_, fun he hv hlt => ?_, fun he hv hlt => ?_, fun h rest he hv hq hc hlt => ?_⟩
  · rw [routePipe_of_stopped he]
    rfl
  · rw [routePipe_of_unlatched he hv, headerPhase_of_lt hlt]
    rfl
  · rw [routePipe_of_latched he hv, dataPhase_of_lt hlt]
    rfl
  · rw [routePipe_of_unlatched he hv, (headerPhase_of_header hq).2 hc, dataPhase_headerLatched_of_lt hlt]
    rfl

/-! ## A packet for this node -/

/-- R250: no entry with the command id. -/
theorem findCommand_eq_none {cmd : CmdId} {l : List CmdEntry} (h : ∀ e ∈ l, e.id ≠ cmd) (n : Nat) :
    findCommand cmd l n = none := by
  induction l generalizing n with
  | nil => rfl
  | cons e l ih =>
    rw [findCommand, if_neg (h e List.mem_cons_self)]
    exact ih (fun e' he' => h e' (List.mem_cons_of_mem e he')) (n + 1)

/-- R250: the first entry with the command id, at its index counted from `n`. -/
theorem findCommand_eq_some {cmd : CmdId} {l : List CmdEntry} {i : Nat} {e : CmdEntry} (hi : l[i]? = some e)
    (he : e.id = cmd) (hfirst : ∀ j e', j < i → l[j]? = some e' → e'.id ≠ cmd) (n : Nat) :
    findCommand cmd l n = some (n + i, e.expected) := by
  induction l generalizing i n with
  | nil => exact nomatch hi
  | cons e0 l ih =>
    cases i with
    | zero =>
      obtain rfl : e0 = e := Option.some.inj hi
      rw [findCommand, if_pos he]
      rfl
    | succ i =>
      have htail : ∀ j e', j < i → l[j]? = some e' → e'.id ≠ cmd := fun j e' hj => hfirst (j + 1) e' (by omega)
      rw [findCommand, if_neg (hfirst 0 e0 (by omega) rfl), ih hi htail, Nat.add_right_comm, Nat.add_assoc]

/-- R241: an index of one byte is its byte. -/
theorem indexArg_of_lt {i : Nat} (h : i < 256) : indexArg i = BitVec.ofNat 8 i := if_pos h

section
variable {h : Header} {data : List Byte} {s : State}

/-- R250: a command the table lacks. -/
theorem localDispatch_of_noHandler (hf : findCommand h.cmd s.params.cmdTable 0 = none) :
    localDispatch h data s = respondAction .ok .droppedNoHandler (raiseCond (.noHandler h.cmd) s) := by
  rw [localDispatch, hf]

/-- R250: another declared count than the table's. -/
theorem localDispatch_of_badCount {i : Nat} {n : Byte} (hf : findCommand h.cmd s.params.cmdTable 0 = some (i, n))
    (hn : n ≠ h.count) :
    localDispatch h data s = respondAction .ok .droppedBadCount (raiseCond (.badCount h.cmd h.count) s) := by
  rw [localDispatch, hf]
  exact if_pos hn

/-- R250, R256: the expected count. -/
theorem localDispatch_of_expected {i : Nat} (hf : findCommand h.cmd s.params.cmdTable 0 = some (i, h.count)) :
    localDispatch h data s = respondAction .ok (.local_ i) (emitDispatch ⟨i, h.src, h.cmd, h.count, data⟩ s) := by
  rw [localDispatch, hf]
  exact if_neg (not_not_intro rfl)

/-- R240: a packet for this node goes to the command table. -/
theorem routePacket_of_here (hd : h.dest = s.params.boardAddress) : routePacket h data s = localDispatch h data s := by
  rw [routePacket, hd, routeDecision_self]

/-- R240: a packet routed UP at a node without a parent is dropped. -/
theorem routePacket_of_noRoute (hr : routeDecision s.params h.dest s.params.boardAddress = .up)
    (hp : s.params.hasParent = false) :
    routePacket h data s = respondAction .ok .droppedNoRoute (raiseCond (.noRoute h.dest) s) := by
  rw [routePacket, hr]
  exact if_neg (by simp [hp])

end

/-- Settles O46: the packet is taken, then the table is searched. -/
theorem localPacketIsDispatched : Obligations.LocalPacketIsDispatched := by
  intro s pipe p h data rest hm hp hr hd
  rw [exec_routeStep_of_packet pipe p h data rest s hm hp hr, routePacket_of_here (s := packetTaken p h rest s) hd]
  refine ⟨fun hnone => ?_, fun i e hi hid hfirst => ?_⟩
  · rw [localDispatch_of_noHandler (s := packetTaken p h rest s) (findCommand_eq_none hnone 0)]
    rfl
  have hfind := findCommand_eq_some hi hid hfirst 0
  rw [Nat.zero_add] at hfind
  refine ⟨fun hne => ?_, fun heq => ⟨indexArg i, indexArg_of_lt, ?_⟩⟩
  · rw [localDispatch_of_badCount (s := packetTaken p h rest s) hfind hne]
    rfl
  · rw [heq] at hfind
    rw [localDispatch_of_expected (s := packetTaken p h rest s) hfind]
    rfl

/-- Settles O49: the packet is taken, then dropped. -/
theorem packetWithoutRouteIsDropped : Obligations.PacketWithoutRouteIsDropped := by
  intro s pipe p h data rest hm hp hr hup hnoparent
  rw [exec_routeStep_of_packet pipe p h data rest s hm hp hr,
    routePacket_of_noRoute (s := packetTaken p h rest s) hup hnoparent]
  rfl

end Sys2Proof.Machine

/-! SUPPORT. A send begun, by the mode it begins in, and a packet forwarded to the parent or to a child (42_outbound_sender R181 to
R184, 44_tree_router R254). -/

namespace Sys2Proof.Machine

section
variable (reply : SendReply) {data : List Byte} {s : State}

/-- R182, R183: begun while no transmission is in flight, at most 30 bytes leave in one frame and the command responds. -/
theorem sendBytes_of_oneFrame (hm : s.mode ≠ .transmitting) (hl : data.length ≤ 30) :
    sendBytes reply data s =
      { afterSamples 2 s with
        mode := .transmitting, txStart := sample 1 s, ce := true,
        radioTrace := s.radioTrace ++ [.ce false, .setMode .tx, .flushTx, .writeTxPayload (frameOf data), .ce true],
        sender := none, hostOut := s.hostOut ++ [0x00#8 :: replyBytes reply 1#8] } := by
  have hlast : (Sender.fresh reply data s.now).k + 1 = frameCount (Sender.fresh reply data s.now).len.toNat := by
    rw [Sender.fresh, toNat_lengthByte (by omega), frameCount_of_le hl]
  rw [sendBytes_eq_fresh, senderLoop_of_last (s := clockSampled s) hm hlast,
    show chunk (Sender.fresh reply data s.now).data (Sender.fresh reply data s.now).k = data from chunk_zero_of_le hl]
  rfl

variable (data)

/-- R181: begun in Transmitting, within the timeout the command waits. -/
theorem sendBytes_of_transmitting_of_le (hm : s.mode = .transmitting)
    (h : (sample 1 s - sample 0 s).toNat ≤ s.params.txTimeoutMs.toNat) :
    sendBytes reply data s = { afterSamples 2 s with sender := some (.fresh reply data (sample 0 s)) } := by
  rw [sendBytes_eq_fresh, senderLoop_of_transmitting _ (s := clockSampled s) hm,
    senderExpiry_of_le (snd := .fresh reply data s.now) (s := clockSampled s) h]
  rfl

/-- R184, R284: past it the watchdog fires and nothing is sent. -/
theorem sendBytes_of_transmitting_of_lt (hm : s.mode = .transmitting)
    (h : s.params.txTimeoutMs.toNat < (sample 1 s - sample 0 s).toNat) :
    sendBytes reply data s =
      { afterSamples 2 s with
        mode := .receiving, ce := true, cntReset := satInc s.params s.cntReset, conditions := s.conditions ++ [.txTimeout],
        radioTrace := s.radioTrace ++ [.clearFlags true true true, .ce false, .setMode .rx, .ce true],
        sender := none, hostOut := s.hostOut ++ [0x02#8 :: replyBytes reply 0#8] } := by
  rw [sendBytes_eq_fresh, senderLoop_of_transmitting _ (s := clockSampled s) hm,
    senderExpiry_of_lt (snd := .fresh reply data s.now) (s := clockSampled s) h]
  rfl

end

/-- R25, R254: the transmit address whose two parts the registers hold. -/
theorem txAddress_of_registers {t : State} {a : RadioAddr} (hhi : t.cfgTxHi = addrHi a) (hlo : t.cfgTxLo = addrLo a) :
    txAddress t = a := by rw [txAddress, hhi, hlo, addrHi_append_addrLo]

/-- R254: what a forward adds to the trace comes after the address's transaction. -/
theorem forwardBegun_radioTrace_append (p : Pipe) (h : Header) (rest : List Byte) (a : RadioAddr) (s : State)
    (ops : List RadioOp) :
    (forwardBegun p h rest a s).radioTrace ++ ops = s.radioTrace ++ .writeReg .txAddr
      [a.extractLsb' 0 8, a.extractLsb' 8 8, a.extractLsb' 16 8, a.extractLsb' 24 8, a.extractLsb' 32 8] :: ops :=
  List.append_assoc _ _ _

/-- Settles O47: the packet leaves in one frame. -/
theorem packetIsForwarded : Obligations.PacketIsForwarded := by
  intro s pipe p h data rest f a reply act hm hp hr hframe hfwd
  obtain ⟨hl, rfl⟩ := encodeFrameOf_eq_some hframe
  have hidle : (forwardBegun p h rest a s).mode ≠ .transmitting := fun ht => nomatch hm.symm.trans ht
  refine ⟨_, exec_routeStep_of_forwardedTo (by simp [hm]) hp hr hfwd, ?_⟩
  rw [sendBytes_of_oneFrame reply (data := h.bytes ++ data) hidle hl, replyBytes_of_forwardedTo hfwd,
    forwardBegun_radioTrace_append]
  exact ⟨txAddress_of_registers rfl rfl, rfl⟩

/-- Settles O48: the transmission in flight leaves the decision to the clock. -/
theorem forwardInTransmittingWaits : Obligations.ForwardInTransmittingWaits := by
  intro s pipe p h data rest a reply act hm hp hr hfwd
  rw [exec_routeStep_of_forwardedTo (by simp [hm]) hp hr hfwd]
  refine ⟨fun hle => ⟨_, rfl, ?_⟩, fun hlt => ⟨_, rfl, ?_⟩⟩
  · rw [sendBytes_of_transmitting_of_le reply (h.bytes ++ data) (s := forwardBegun p h rest a s) hm hle, Nat.add_comm 9]
    exact ⟨txAddress_of_registers rfl rfl, rfl⟩
  · rw [sendBytes_of_transmitting_of_lt reply (h.bytes ++ data) (s := forwardBegun p h rest a s) hm hlt,
      replyBytes_of_forwardedTo hfwd, forwardBegun_radioTrace_append]
    exact ⟨txAddress_of_registers rfl rfl, rfl⟩

end Sys2Proof.Machine

/-! SUPPORT. What a ROUTE_STEP takes, and who writes the router's latches (10_state R34, 44_tree_router R240, R246, R260). -/

namespace Sys2Proof.Machine

/-- R34: what the router has latched for a pipe: its sticky error, and whether a header waits, and which. -/
def latch (p : Pipe) (s : State) : Bool × Bool × Header := (s.rtErr.get p, s.rtHdrValid.get p, s.rtHdr.get p)

theorem latch_eq_iff {p : Pipe} {s t : State} : latch p t = latch p s ↔
    t.rtErr.get p = s.rtErr.get p ∧ t.rtHdrValid.get p = s.rtHdrValid.get p ∧ t.rtHdr.get p = s.rtHdr.get p := by
  simp only [latch, Prod.mk.injEq]

/-! ## The sender and the packet -/

theorem senderLoop_latch (p : Pipe) (snd : Sender) (s : State) : latch p (senderLoop snd s) = latch p s := by
  rw [senderLoop_frame]
  rfl

theorem sendBytes_latch (p : Pipe) (reply : SendReply) (data : List Byte) (s : State) :
    latch p (sendBytes reply data s) = latch p s := senderLoop_latch p _ (clockSampled s)

theorem sendBytes_dispatchOut (reply : SendReply) (data : List Byte) (s : State) :
    (sendBytes reply data s).dispatchOut = s.dispatchOut := by
  rw [sendBytes_eq, senderLoop_frame]
  rfl

/-- R243: the latches are done with before a packet is routed. -/
theorem routePacket_latch (p : Pipe) (h : Header) (data : List Byte) (s : State) :
    latch p (routePacket h data s) = latch p s := by
  rcases routePacket_cases h data s with ⟨cs, ds, a, -, e⟩ | ⟨reply, addr, e⟩ <;> rw [e]
  · rfl
  · exact sendBytes_latch p _ _ _

/-- R256, R260: a packet makes at most one dispatch event. -/
theorem routePacket_dispatchOut (h : Header) (data : List Byte) (s : State) :
    ∃ ds, ds.length ≤ 1 ∧ (routePacket h data s).dispatchOut = s.dispatchOut ++ ds := by
  rcases routePacket_cases h data s with ⟨cs, ds, a, hds, e⟩ | ⟨reply, addr, e⟩ <;> rw [e]
  · exact ⟨ds, hds, rfl⟩
  · exact ⟨[], Nat.zero_le _, by rw [sendBytes_dispatchOut, List.append_nil]; rfl⟩

/-! ## A ROUTE_STEP on a pipe -/

/-- R260: from `s` to `t` the router has worked on pipe `p`: it took at most `n` bytes from the front of that queue, left the other
pipes alone, and dispatched at most once. -/
structure RoutedOn (p : Pipe) (n : Nat) (s t : State) : Prop where
  queue : ∃ k, k ≤ n ∧ t.q = s.q.set p ((s.q.get p).drop k)
  latches : ∀ p', p' ≠ p → latch p' t = latch p' s
  dispatch : ∃ ds, ds.length ≤ 1 ∧ t.dispatchOut = s.dispatchOut ++ ds

/-- R240: an answer without a packet takes nothing. -/
theorem RoutedOn.of_same (p : Pipe) (n : Nat) {s t : State} (q : t.q = s.q) (latches : ∀ p', latch p' t = latch p' s)
    (dispatch : t.dispatchOut = s.dispatchOut) : RoutedOn p n s t where
  queue := ⟨0, Nat.zero_le n, by rw [q, List.drop_zero, PerPipe.set_get]⟩
  latches p' _ := latches p'
  dispatch := ⟨[], Nat.zero_le _, by rw [dispatch, List.append_nil]⟩

/-- R243: the data phase takes the declared bytes. -/
theorem dataPhase_routedOn {p : Pipe} {n : Nat} {s : State} (hn : (s.rtHdr.get p).count.toNat ≤ n) :
    RoutedOn p n s (dataPhase p s) := by
  rcases dataPhase_cases p s with ⟨-, e⟩ | ⟨-, e⟩ <;> rw [e]
  · exact .of_same p n rfl (fun _ => rfl) rfl
  · refine ⟨⟨_, hn, routePacket_q _ _ _⟩, fun p' hp => ?_, routePacket_dispatchOut _ _ _⟩
    rw [routePacket_latch, latch_eq_iff]
    exact ⟨rfl, PerPipe.get_set_ne _ _ _ _ hp, rfl⟩

/-- R34: a latched header is the own pipe's. -/
theorem headerLatched_latch_of_ne {p p' : Pipe} (hp : p' ≠ p) (h : Header) (rest : List Byte) (s : State) :
    latch p' (headerLatched p h rest s) = latch p' s :=
  latch_eq_iff.2 ⟨rfl, PerPipe.get_set_ne _ _ _ _ hp, PerPipe.get_set_ne _ _ _ _ hp⟩

/-- R242: the bytes of the header come before those taken after it. -/
theorem RoutedOn.of_headerLatched {p : Pipe} {n : Nat} {h : Header} {s t : State}
    (e : RoutedOn p n (headerLatched p h ((s.q.get p).drop 9) s) t) : RoutedOn p (9 + n) s t where
  queue := by
    obtain ⟨k, hk, hq⟩ := e.queue
    refine ⟨9 + k, Nat.add_le_add_left hk 9, ?_⟩
    simpa only [headerLatched, PerPipe.get_set_same, PerPipe.set_set, List.drop_drop] using hq
  latches p' hp := (e.latches p' hp).trans (headerLatched_latch_of_ne hp _ _ _)
  dispatch := e.dispatch

/-- R242, R246: the header phase takes nine bytes and at most 21 after them. -/
theorem headerPhase_routedOn (p : Pipe) (s : State) : RoutedOn p 30 s (headerPhase p s) := by
  rcases headerPhase_cases p s with ⟨-, e⟩ | ⟨h, -, -, -, e⟩ | ⟨h, -, -, hc, e⟩ <;> rw [e]
  · exact .of_same p 30 rfl (fun _ => rfl) rfl
  · refine ⟨⟨9, by decide, rfl⟩, fun p' hp => latch_eq_iff.2 ⟨?_, ?_, ?_⟩, [], Nat.zero_le _, (List.append_nil _).symm⟩
    all_goals exact PerPipe.get_set_ne _ _ _ _ hp
  · refine RoutedOn.of_headerLatched (n := 21) (dataPhase_routedOn ?_)
    simpa only [headerLatched, PerPipe.get_set_same] using hc

/-- R260: a ROUTE_STEP takes the 30 bytes of the largest packet at most, or the data of the header that waits. -/
theorem routePipe_routedOn {p : Pipe} {n : Nat} {s : State} (hn : 30 ≤ n)
    (hc : s.rtErr.get p = false → s.rtHdrValid.get p = true → (s.rtHdr.get p).count.toNat ≤ n) :
    RoutedOn p n s (routePipe p s) := by
  rcases routePipe_cases p s with ⟨-, e⟩ | ⟨he, hv, e⟩ | ⟨-, -, e⟩ <;> rw [e]
  · exact .of_same p n rfl (fun _ => rfl) rfl
  · exact dataPhase_routedOn (hc he hv)
  · obtain ⟨⟨k, hk, hq⟩, hl, hd⟩ := headerPhase_routedOn p s
    exact ⟨⟨k, hk.trans hn, hq⟩, hl, hd⟩

/-- R105, R260: the command, behind its gate. -/
theorem exec_routeStep_routedOn {pipe : Byte} {p : Pipe} {s t : State} (hl : LatchesConsistent s) (hp : pipe.toNat = p.num)
    (h : exec (.routeStep pipe) s = .next t) : RoutedOn p 30 s t := by
  by_cases hm : s.mode = .standby
  · cases (exec_gated_of_standby (i := .routeStep pipe) rfl (by decide) hm).symm.trans h
    exact .of_same p 30 rfl (fun _ => rfl) rfl
  · cases (exec_routeStep_of_pipe pipe p s hm hp).symm.trans h
    exact routePipe_routedOn le_rfl fun he hv => ((hl p).2 hv he).trans (by decide)

/-- Settles O50: what `RoutedOn` says of the queue, the other pipes and the dispatch port. -/
theorem routeStepConsumesAtMostThirtyBytes : Obligations.RouteStepConsumesAtMostThirtyBytes := by
  intro s t pipe p hl hp h
  obtain ⟨⟨k, hk, hq⟩, hlatches, ds, hds, hd⟩ := exec_routeStep_routedOn hl hp h
  refine ⟨⟨k, hk, by rw [hq, PerPipe.get_set_same]⟩, fun p' hne => ?_, ?_⟩
  · obtain ⟨herr, hvalid, hhdr⟩ := latch_eq_iff.1 (hlatches p' hne)
    exact ⟨by rw [hq, PerPipe.get_set_ne _ _ _ _ hne], hvalid, hhdr, herr⟩
  · rw [hd]
    match ds, hds with
    | [], _ => exact .inl (List.append_nil _)
    | [e], _ => exact .inr ⟨e, rfl⟩

/-! ## The latches of a stopped pipe -/

/-- R246: a ROUTE_STEP leaves the latches of a stopped pipe alone, whichever pipe it names. -/
theorem routePipe_latch_of_stopped {p : Pipe} {s : State} (he : s.rtErr.get p = true) (p' : Pipe) :
    latch p (routePipe p' s) = latch p s := by
  by_cases hp : p = p'
  · subst hp
    rw [routePipe_of_stopped he]
    rfl
  · have hbyte : (s.rtHdr.get p').count.toNat ≤ 255 := Nat.le_of_lt_succ (s.rtHdr.get p').count.isLt
    exact (routePipe_routedOn (n := 255) (by decide) fun _ _ => hbyte).latches p hp

/-- R105: a closed gate writes no latch. -/
theorem gate_latch (p : Pipe) (o : Op) {body : State → State} {s : State} (h : latch p (body s) = latch p s) :
    latch p (gate o body s) = latch p s := by
  by_cases hm : s.mode = .standby
  · rw [gate_closed o body s hm]
    rfl
  · rwa [gate_open o body s hm]

theorem dataReadyBody_latch (p : Pipe) (s : State) : latch p (dataReadyBody s) = latch p s := by
  unfold dataReadyBody
  split
  · split
    · rw [watchdogFires_eq]
      rfl
    · rfl
  · rfl

/-- R246, R34: no operation writes the latches of a stopped pipe; ROUTE_STEP alone writes latches at all. -/
theorem exec_latch_of_stopped {i : Instr} {p : Pipe} {s t : State} (he : s.rtErr.get p = true) (h : exec i s = .next t) :
    latch p t = latch p s := by
  cases i with
  | routeStep pipe =>
    cases h
    refine gate_latch p _ ?_
    unfold routeStepBody
    split
    · rfl
    · exact routePipe_latch_of_stopped he _
  | irqService =>
    rcases exec_irqService_cases s with ⟨-, tr, hx⟩ | ⟨-, p', tr, q, n, hx⟩ | ⟨-, p', tr, hx⟩ | ⟨-, tr, cs, -, hx⟩
    all_goals
      cases hx.symm.trans h
      rfl
  | init =>
    rw [exec_init_eq, initSequence_eq] at h
    cases h
    rfl
  | setRxAddr pipe hi32 lo8 =>
    cases h
    refine gate_latch p _ ?_
    unfold setRxAddrBody
    split
    · rfl
    · next p' _ => cases p' <;> rfl
  | setChannel ch =>
    cases h
    exact gate_latch p _ (by unfold setChannelBody; split <;> rfl)
  | enablePipes mask =>
    cases h
    exact gate_latch p _ (by unfold enablePipesBody; split <;> rfl)
  | disablePipes mask =>
    cases h
    exact gate_latch p _ (by unfold disablePipesBody; split <;> rfl)
  | writePayload data =>
    cases h
    exact gate_latch p _ (sendBytes_latch p _ _ _)
  | dataReady =>
    cases h
    exact gate_latch p _ (dataReadyBody_latch p s)
  | setTxAddr _ _ =>
    cases h
    exact gate_latch p _ rfl
  | resetToRx =>
    cases h
    refine gate_latch p _ ?_
    rw [resetToReceive_eq]
    rfl
  | pipeRead pipe =>
    cases h
    split
    · rfl
    · next p' _ => cases hq : s.q.get p' <;> simp only [queuePop, hq] <;> rfl
  | pipeCount _ | encodeFrame _ =>
    cases h
    split <;> rfl
  | getCksumErr | getResetCnt | getMode | checksum _ | decodeFrame _ =>
    cases h
    rfl

theorem foregroundStep_latch_of_stopped {p : Pipe} {s t : State} (he : s.rtErr.get p = true)
    (h : foregroundStep s = .next t) : latch p t = latch p s := by
  rcases foregroundStep_cases s with ⟨snd, -, hf⟩ | ⟨-, -, hf⟩ | ⟨m, ms, i, -, -, -, hf⟩ | ⟨m, ms, e, -, -, -, hf⟩
  · cases hf.symm.trans h
    exact senderLoop_latch p snd s
  · cases hf.symm.trans h
    rfl
  · exact exec_latch_of_stopped (s := { s with hostIn := ms }) he (hf.symm.trans h)
  · cases hf.symm.trans h
    cases e <;> rfl

/-- R246: a step that is no hardware reset leaves the latches of a stopped pipe alone. -/
theorem step_latch_of_stopped {p : Pipe} {s t : State} (he : s.rtErr.get p = true) (h : step s = .next t)
    (hr : ¬ ResetNext s) : latch p t = latch p s := by
  rcases step_cases h hr with ⟨-, hx⟩ | ⟨-, -, -, hx⟩ | ⟨-, hx⟩
  · exact foregroundStep_latch_of_stopped (s := moved s) he hx
  · exact exec_latch_of_stopped (s := moved s) he hx
  · exact (congrArg (latch p) hx :)

/-- Settles O45: the stop, its latches over every step, and the answer while it lasts. -/
theorem routerErrorIsSticky : Obligations.RouterErrorIsSticky := by
  refine ⟨fun s pipe p h rest hm hp he hv hq hc => ?_, fun s t p hx hr he => ?_, fun s pipe p hm hp he => ?_⟩
  · rw [exec_routeStep_of_pipe pipe p s hm hp, routePipe_of_unlatched he hv, (headerPhase_of_header hq).1 hc]
    rfl
  · obtain ⟨herr, hvalid, hhdr⟩ := latch_eq_iff.1 (step_latch_of_stopped he hx hr)
    exact ⟨herr.trans he, hvalid, hhdr⟩
  · rw [exec_routeStep_of_pipe pipe p s hm hp, routePipe_of_stopped he]
    rfl

end Sys2Proof.Machine

/-! SUPPORT. The frame of an interrupt service: the transactions it may perform and the registers it may write (43_inbound_demux
R210 to R215, 60_exceptions R293). -/

namespace Sys2Proof.Machine

/-- R215: a delivery writes the queues, the checksum counter and the conditions alone; the radio is not touched. -/
theorem deliver_frame (p : Pipe) (f : List Byte) (s : State) :
    ∃ q n cs, deliver p f s = { s with q := q, cntCksumErr := n, conditions := cs } := by
  cases hv : (decodeFrameOf f).valid with
  | false => exact ⟨_, _, _, deliver_of_invalid hv s⟩
  | true => exact ⟨_, _, _, (deliver_of_valid hv s).trans (queuePushAll_eq p _ s)⟩

/-- R210 to R214: the transactions of a service that finds a completion, a frame on a valid pipe, or neither. -/
def serviceTransactions : List (List RadioOp) :=
  [[.readStatus, .ce false, .setMode .rx, .ce true, .clearFlags true true true],
    [.readStatus, .readRxPayload, .flushRx, .clearFlags true false false], [.readStatus]]

/-- R293: a service performs one of the three transaction lists and writes these registers alone. -/
theorem exec_irqService_frame (s : State) : ∃ t, ∃ tr ∈ serviceTransactions, exec .irqService s = .next t ∧
    t = { s with
      irqPend := false, mode := t.mode, ce := t.ce, q := t.q, cntCksumErr := t.cntCksumErr,
      radioTrace := s.radioTrace ++ tr, conditions := t.conditions } := by
  cases hc : s.radioStatus.txConcluded with
  | true => exact ⟨_, _, .head _, exec_irqService_of_concluded hc, rfl⟩
  | false =>
    cases hrx : s.radioStatus.rxDr with
    | false => exact ⟨_, _, .tail _ (.tail _ (.head _)), exec_irqService_of_noFlag hc hrx, rfl⟩
    | true =>
      cases hp : Pipe.ofField? s.radioStatus.rxPNo with
      | none => exact ⟨_, _, .tail _ (.tail _ (.head _)), exec_irqService_of_badPipe hc hrx hp, rfl⟩
      | some p =>
        obtain ⟨q, n, cs, hd⟩ := deliver_frame p (frame32 s.radioFrame) (frameTaken s)
        exact ⟨_, _, .tail _ (.head _), (exec_irqService_of_pipe hc hrx hp).trans (congrArg _ hd), rfl⟩

/-- R215: a service never takes a byte from a queue. -/
theorem exec_irqService_queue_prefix {s t : State} (h : exec .irqService s = .next t) (p : Pipe) :
    s.q.get p <+: t.q.get p := by
  rcases exec_irqService_queues h with hq | ⟨p', bs, -, hq⟩
  · rw [hq]
  · rw [hq, PerPipe.get_set]
    split
    · next e => exact e ▸ List.prefix_append _ _
    · exact List.prefix_rfl

/-- Settles O34: the three transaction lists hold permitted transactions only; the registers and the queues by their lemmas. -/
theorem irqServiceFrame : Obligations.IrqServiceFrame := by
  intro s
  obtain ⟨t, tr, htr, hx, ht⟩ := exec_irqService_frame s
  have htrace : t.radioTrace = s.radioTrace ++ tr := by rw [ht]
  exact ⟨t, tr, hx, htrace, (by decide : ∀ tr ∈ serviceTransactions, ∀ o ∈ tr, o ∈ _) tr htr,
    exec_irqService_queue_prefix hx, htrace ▸ ht⟩

end Sys2Proof.Machine

/-! SUPPORT. The reset input, and what a service and the recovery path do to the radio of the contract (60_exceptions R305, R307,
70_reset_and_hazards R320 to R333). -/

namespace Sys2Proof.Machine

/-! ## The reset input -/

/-- R320: the step of the reset input. -/
theorem step_of_reset {s : State} {u : Unspecified} (h : nextMove s = .reset u) :
    step s = .next (hardwareReset u (moved s)) := by
  rw [step_eq_perform, h]
  rfl

/-- Settles O52: each register takes its value of R321 from `State.resetWith`; the traces and the parameters are the old ones. -/
theorem hardwareResetResult : Obligations.HardwareResetResult := fun _ _ hu =>
  ⟨_, step_of_reset hu, rfl, rfl, rfl, rfl, PerPipe.get_all _, rfl, rfl, PerPipe.get_all _, PerPipe.get_all _,
    rfl, rfl, rfl, rfl, rfl, rfl, rfl, rfl, rfl, rfl, rfl, rfl, rfl, rfl⟩

/-! ## The inputs that the radio drives -/

theorem Radio.drive_radioFrame (r : Radio) (s : State) : (r.drive s).radioFrame = r.headFrame := rfl

/-- R305: with frames waiting the record shows the pipe of the first one. -/
theorem Radio.statusRec_pipe {r : Radio} {p : Pipe} {f : List Byte} {others : List (Pipe × List Byte)}
    (h : r.rxFifo = (p, f) :: others) : Pipe.ofField? r.statusRec.rxPNo = some p := by
  rw [Radio.statusRec, h]
  exact Pipe.ofField?_num p

/-- R305: a payload read gives the frame that has waited longest. -/
theorem Radio.headFrame_of_cons {r : Radio} {p : Pipe} {f : List Byte} {others : List (Pipe × List Byte)}
    (h : r.rxFifo = (p, f) :: others) : r.headFrame = f := by
  rw [Radio.headFrame, h]

/-- R210, R307: the record of a radio with a transmit flag set is a completion. -/
theorem Radio.statusRec_concluded {r : Radio} (h : r.txDs = true ∨ r.maxRt = true) : r.statusRec.txConcluded = true :=
  (txConcluded_iff _).2 h

/-- R28, R290: a line that is low already makes no falling edge, so the radio sets no latch. -/
theorem Radio.drive_irqPend_of_low (r : Radio) {s : State} (h : s.irqLine = false) : (r.drive s).irqPend = s.irqPend := by
  simp [Radio.drive, fallingEdge, h]

/-! ## The radio after the transactions of the LLC -/

section
variable (p : Params) (r : Radio)

/-- R305, R307: the payload read, the flush and the clear of a receive leave no frame and no data-ready. -/
theorem Radio.reactAll_receive :
    r.reactAll p [.readStatus, .readRxPayload, .flushRx, .clearFlags true false false] =
      { r with rxFifo := [], rxDr := false } := by
  simp [Radio.reactAll, Radio.react, Radio.clearFlags]

/-- R72, R212: the radio in receive with every flag cleared; the frames that wait in it stay. -/
def Radio.listeningCleared : Radio :=
  { r with ce := true, config := modeByte p .rx, rxDr := false, txDs := false, maxRt := false }

/-- R211: the transactions of a completion. -/
theorem Radio.reactAll_completion :
    r.reactAll p [.readStatus, .ce false, .setMode .rx, .ce true, .clearFlags true true true] = r.listeningCleared p := by
  simp [Radio.reactAll, Radio.react, Radio.clearFlags, Radio.listeningCleared]

/-- R185: the transactions of the recovery path. -/
theorem Radio.reactAll_recovery :
    r.reactAll p [.clearFlags true true true, .ce false, .setMode .rx, .ce true] = r.listeningCleared p := by
  simp [Radio.reactAll, Radio.react, Radio.clearFlags, Radio.listeningCleared]

end

/-! ## What the delivery of one frame moves -/

section
variable (p : Pipe) (f : List Byte) (s : State)

/-- R215: the payload of a valid frame, as far as there is room, and nothing of an invalid one. -/
theorem deliver_queue_same :
    (deliver p f s).q.get p = s.q.get p ++
      if (decodeFrameOf f).valid = true then (decodeFrameOf f).payload.take (queueRoom p s) else [] := by
  cases hv : (decodeFrameOf f).valid with
  | false => rw [deliver_of_invalid hv, if_neg nofun, List.append_nil]
  | true => rw [deliver_of_valid hv, queuePushAll_eq, if_pos rfl, PerPipe.get_set_same]

/-- R225: the other pipes' queues stay. -/
theorem deliver_queue_other {p' : Pipe} (h : p' ≠ p) : (deliver p f s).q.get p' = s.q.get p' := by
  cases hv : (decodeFrameOf f).valid with
  | false => rw [deliver_of_invalid hv]
  | true => rw [deliver_of_valid hv, queuePushAll_eq, PerPipe.get_set_ne _ _ _ _ h]

/-- R283: an invalid frame is counted once, a valid one not at all. -/
theorem deliver_cntCksumErr :
    (deliver p f s).cntCksumErr =
      if (decodeFrameOf f).valid = true then s.cntCksumErr else satInc s.params s.cntCksumErr := by
  cases hv : (decodeFrameOf f).valid with
  | false => rw [deliver_of_invalid hv, if_neg nofun]
  | true => rw [deliver_of_valid hv, queuePushAll_eq, if_pos rfl]

theorem deliver_cntReset : (deliver p f s).cntReset = s.cntReset := by
  obtain ⟨q, n, cs, h⟩ := deliver_frame p f s
  rw [h]

theorem deliver_radioTrace : (deliver p f s).radioTrace = s.radioTrace := by
  obtain ⟨q, n, cs, h⟩ := deliver_frame p f s
  rw [h]

end

/-! ## The hazards -/

/-- Settles O58: the service takes the first frame and delivers it; its flush leaves the radio none of the others. -/
theorem receiveFlushDiscardsWaitingFrames : Obligations.ReceiveFlushDiscardsWaitingFrames := by
  intro s r p f others hfifo hrx htx hmax hlen
  have hserve : exec .irqService (r.drive s) = .next (deliver p f (frameTaken (r.drive s))) := by
    rw [exec_irqService_of_pipe (s := r.drive s) (txConcluded_eq_false htx hmax) hrx (Radio.statusRec_pipe hfifo),
      Radio.drive_radioFrame, Radio.headFrame_of_cons hfifo, frame32_of_length f hlen]
  refine ⟨_, _, hserve, deliver_radioTrace p f _, ?_, ?_, fun p' hp' => deliver_queue_other p f _ hp',
    deliver_queue_same p f _, deliver_cntCksumErr p f _, deliver_cntReset p f _⟩
  all_goals rw [Radio.reactAll_receive]

/-- Settles O59: both paths end in a radio whose flags are cleared and whose receive FIFO is the old one. -/
theorem flagsClearedWithoutARead : Obligations.FlagsClearedWithoutARead := by
  refine fun s r => ⟨fun hc => ?_, fun hm => ?_⟩
  · refine ⟨_, _, exec_irqService_of_concluded (s := r.drive s) (Radio.statusRec_concluded hc), rfl, ?_, ?_, rfl⟩
    all_goals rw [Radio.reactAll_completion]; rfl
  · refine ⟨_, _, (resetToRxResult s).2.2 hm, rfl, ?_, ?_, rfl⟩
    all_goals rw [Radio.reactAll_recovery]; rfl

/-- Settles O60: the service reads the status alone, which changes nothing in the radio; the line was low and makes no edge. -/
theorem ignoredPipeLeavesTheLineLow : Obligations.IgnoredPipeLeavesTheLineLow := by
  intro s r hrx htx hmax hp hlow
  exact ⟨_, _, exec_irqService_of_badPipe (txConcluded_eq_false htx hmax) hrx ((Pipe.ofField?_eq_none _).2 hp), rfl, rfl, rfl,
    fun _ => r.drive_irqPend_of_low hlow⟩

end Sys2Proof.Machine
